-- ==== Sys2Proof/Word.lean ====
section
/-! DEFINITION. The word types of the block: the chip port's byte, the debounce counters' u32, the 4-bit selector of
an op byte, and GPIO masks (spec/00_scope.md R7, R8; spec/30_encoding.md R79). -/

namespace Sys2Proof

/-- The chip port width is 8 bits (R7), and an op byte is 8 bits (R79). -/
abbrev Byte := BitVec 8

/-- The debounce counters are unsigned 32-bit values (R7, R33). -/
abbrev U32 := BitVec 32

/-- The selector field `op[3:0]` of an op byte (R79). -/
abbrev Selector := BitVec 4

/-- A GPIO mask: bit `i` stands for GPIO pin `i` (R51). Its width `PIN_WIDTH` is a parameter of the configuration
(R7, D18), so a mask is a natural number, and bits are read with `Nat.testBit`. -/
abbrev Mask := Nat

end Sys2Proof
end

