-- ==== Sys2Proof/Config.lean ====
section
/-! DEFINITION. The configuration record `C` and the chip's port snapshot, as plain data (spec/10_state.md R27, R30,
R31; spec/00_scope.md R7). The check of R39 is `Machine.configAdmitted` in Sys2Proof/Machine/Admission.lean. -/

namespace Sys2Proof

/-- The chip's port snapshot: its direction mask and its output value (R27). Bit `b` stands for port bit `b` (R51). -/
structure PortState where
  /-- `directionMask`: bit 1 = output, 0 = input (R72). -/
  dir : Byte
  /-- `outputValue`: the last written port value (R192). -/
  out : Byte
deriving DecidableEq, Repr

/-- The attached chip, a closed tagged variant selected once per session (R31). -/
inductive ChipKind where
  /-- Variant A: VIA-style, XOR gate, `SignalEdgeInput` (R3, R31). -/
  | variantA
  /-- Variant B: CIA-style, AND gate, `SetLevelFlag` (R3, R31). -/
  | variantB
  /-- No chip attached: AND gate, no chip calls at all (R31, R124). -/
  | absent
deriving DecidableEq, Repr

/-- GPIO pin numbers of the bus and indicator signals (R7). The button pins `BTN[i]` stand in `Config.buttons`. -/
structure PinMap where
  atn : Nat
  data : Nat
  clock : Nat
  srq : Nat
  reset : Nat
  /-- The dedicated DATA output of split-pin mode; unused in shared-pin mode (R39). -/
  outData : Nat
  /-- The dedicated CLOCK output of split-pin mode; unused in shared-pin mode (R39). -/
  outClock : Nat
  led : Nat
  sound : Nat
deriving DecidableEq, Repr

/-- Port bit indices of the six bus signals in the chip's port (R7, R58). A legal entry is `0..7` (R39). -/
structure PortMap where
  dataIn : Nat
  dataOut : Nat
  clockIn : Nat
  clockOut : Nat
  atnaOut : Nat
  atnIn : Nat
deriving DecidableEq, Repr

/-- One button: its pin `PinMap.BTN[i]` and its `repeatThreshold[i]` (R7, R30). -/
structure Button where
  pin : Nat
  repeatThreshold : U32
deriving DecidableEq, Repr

/-- Whether a rotary pair reads as UP/DOWN or as NEXT/PREV (R77). -/
inductive RotaryKind where
  | upDown
  | nextPrev
deriving DecidableEq, Repr

/-- One entry `(primary, secondary, kind)` of `RotaryPairs` (R7, R178). -/
structure RotaryPair where
  primary : Nat
  secondary : Nat
  kind : RotaryKind
deriving DecidableEq, Repr

/-- The configuration record `C`, immutable between two RESETs (R30). `N_BUTTONS` is the length of `buttons`
(notes/assumptions/12.md). -/
structure Config where
  invertInputs : Bool
  invertOutputs : Bool
  /-- `true` = split-pin mode, `false` = shared-pin mode. -/
  splitLines : Bool
  ignoreReset : Bool
  chipKind : ChipKind
  pinMap : PinMap
  portMap : PortMap
  /-- `PIN_WIDTH`: the width of the level mask and of the set and clear masks. -/
  pinWidth : Nat
  /-- The level a pressed button reads. -/
  pressedLevel : Bool
  buttons : List Button
  rotaryPairs : List RotaryPair
deriving DecidableEq, Repr

/-- The default `PortMap` of R7 (D4; general knowledge, not in the source). -/
def PortMap.default : PortMap where
  dataIn := 0
  dataOut := 1
  clockIn := 2
  clockOut := 3
  atnaOut := 4
  atnIn := 7

/-- The EX pin map of spec/95_test_vectors.md: not the wiring of any real board. -/
def PinMap.ex : PinMap where
  atn := 0
  data := 1
  clock := 2
  srq := 3
  reset := 4
  outData := 5
  outClock := 6
  led := 7
  sound := 8

/-- The configuration of `Machine.State.reset`. DESIGN CHOICE (notes/assumptions/2.md, unsafe): the spec leaves the
configuration to the caller of RESET; this is EX_A of spec/95_test_vectors.md with the rotary pair of EX_N. -/
def Config.boot : Config where
  invertInputs := false
  invertOutputs := false
  splitLines := true
  ignoreReset := false
  chipKind := .variantA
  pinMap := .ex
  portMap := .default
  pinWidth := 32
  pressedLevel := false
  buttons := [⟨9, 3⟩, ⟨10, 3⟩]
  rotaryPairs := [⟨0, 1, .upDown⟩]

end Sys2Proof
end

