-- ==== Sys2Proof/Syntax.lean ====
section
/-! DEFINITION. The block's operations: one constructor per mnemonic of spec/opcode_table.json, with the operand
record of spec/30_encoding.md R79, R80. The seven `(reserved)` rows share the constructor `reserved`. -/

namespace Sys2Proof

inductive Instr where
  /-- `0x00 RESET cfg` (R220). -/
  | reset (cfg : Config)
  /-- `0x10 CYCLE levels, snap, led, sound` (R190). -/
  | cycle (levels : Mask) (snap : Option PortState) (led sound : Bool)
  /-- `0x2l SENSE l, raw, snap` (R103). Selectors 5..15 decode as SENSE too (R81, 90_conflicts.md C12). -/
  | sense (line : Selector) (raw : Bool) (snap : Option PortState)
  /-- `0x30 ATNEDGE atnAsserted, snap` (R125). -/
  | atnEdge (atnAsserted : Bool) (snap : Option PortState)
  /-- `0x40 PORTOUT status, dir` (R130). -/
  | portOut (status dir : Byte)
  /-- `0x50 GATE atnaOut, atnAsserted, dirAtna` (R121). -/
  | gate (atnaOut atnAsserted dirAtna : Bool)
  /-- `0x60 REFRESH dataLow, clockLow, led, sound` (R150). -/
  | refresh (dataLow clockLow led sound : Bool)
  /-- `0x70 SAMPLE i, raw` (R171). -/
  | sample (i : Nat) (raw : Bool)
  /-- `0x80 ROTARY j, primaryPressed` (R177). -/
  | rotary (j : Nat) (primaryPressed : Bool)
  /-- An op byte the decoder reserves: operation numbers `0x9`..`0xF`, and a non-zero selector on an operation other
  than SENSE (R81). It has no operands (R79). -/
  | reserved (op : Byte)
deriving DecidableEq, Repr

end Sys2Proof
end

