-- ==== Sys2Proof/Decode.lean ====
section
/-! DEFINITION. The decoder of one call (an op byte and its operand record, spec/30_encoding.md R79 to R82) and,
after it, the encoder. The op bytes are the spec's; the spec gives operand records no byte layout, so the layout below
is the model's own (DESIGN CHOICE, notes/assumptions/1.md): the fields in the order of R79, one byte a bit, `u8` as one
byte, a natural number in base 128 with the low group first, `snap` behind an "absent" flag, a list behind its
length. -/

namespace Sys2Proof

/-- `op[7:4]`, the operation number (R79). -/
def opNumber (op : Byte) : Selector := op.extractLsb' 4 4

/-- `op[3:0]`, the selector (R79). -/
def opSelector (op : Byte) : Selector := op.extractLsb' 0 4

/-- A reader takes a field off the front of the bytes, or finds none there. -/
abbrev Reader (α : Type) := List Byte → Option (α × List Byte)

/-- Why bytes are no call of the block. -/
inductive Reject where
  /-- The call has no op byte. -/
  | noOpByte
  /-- The bytes after the op byte are not the operand record of that operation. -/
  | badRecord (op : Byte)
deriving DecidableEq, Repr

def readByte : Reader Byte
  | [] => none
  | b :: bs => some (b, bs)

/-- A one-bit operand (R80): the byte 0 or 1. -/
def readBool : Reader Bool
  | [] => none
  | b :: bs => if b = 0 then some (false, bs) else if b = 1 then some (true, bs) else none

/-- A natural number in base 128, low group first; bit 7 of a byte says that another group follows, and a last group
of 0 after another is refused, so that each number has one spelling. -/
def readNat : Reader Nat
  | [] => none
  | b :: bs =>
    if b.toNat < 128 then some (b.toNat, bs)
    else match readNat bs with
      | none => none
      | some (n, rest) => if n = 0 then none else some (b.toNat - 128 + 128 * n, rest)

/-- A u32 (R7), spelled as a natural number below `2^32`. -/
def readU32 : Reader U32 := fun bs => do
  let (n, bs) ← readNat bs
  if n < 2 ^ 32 then return (BitVec.ofNat 32 n, bs) else none

def readMany {α : Type} (r : Reader α) : Nat → Reader (List α)
  | 0, bs => some ([], bs)
  | n + 1, bs => do
    let (x, bs) ← r bs
    let (xs, bs) ← readMany r n bs
    return (x :: xs, bs)

def readList {α : Type} (r : Reader α) : Reader (List α) := fun bs => do
  let (n, bs) ← readNat bs
  readMany r n bs

/-- `snap` (R80): an "absent" flag, then the direction mask and the output value of a present one. -/
def readSnap : Reader (Option PortState) := fun bs => do
  let (absent, bs) ← readBool bs
  if absent then return (none, bs)
  let (dir, bs) ← readByte bs
  let (out, bs) ← readByte bs
  return (some ⟨dir, out⟩, bs)

def readChipKind : Reader ChipKind := fun bs => do
  let (k, bs) ← readByte bs
  match k.toNat with
  | 0 => return (.variantA, bs)
  | 1 => return (.variantB, bs)
  | 2 => return (.absent, bs)
  | _ => none

def readPinMap : Reader PinMap := fun bs => do
  let (atn, bs) ← readNat bs
  let (data, bs) ← readNat bs
  let (clock, bs) ← readNat bs
  let (srq, bs) ← readNat bs
  let (reset, bs) ← readNat bs
  let (outData, bs) ← readNat bs
  let (outClock, bs) ← readNat bs
  let (led, bs) ← readNat bs
  let (sound, bs) ← readNat bs
  return (⟨atn, data, clock, srq, reset, outData, outClock, led, sound⟩, bs)

def readPortMap : Reader PortMap := fun bs => do
  let (dataIn, bs) ← readNat bs
  let (dataOut, bs) ← readNat bs
  let (clockIn, bs) ← readNat bs
  let (clockOut, bs) ← readNat bs
  let (atnaOut, bs) ← readNat bs
  let (atnIn, bs) ← readNat bs
  return (⟨dataIn, dataOut, clockIn, clockOut, atnaOut, atnIn⟩, bs)

def readButton : Reader Button := fun bs => do
  let (pin, bs) ← readNat bs
  let (threshold, bs) ← readU32 bs
  return (⟨pin, threshold⟩, bs)

def readRotaryPair : Reader RotaryPair := fun bs => do
  let (primary, bs) ← readNat bs
  let (secondary, bs) ← readNat bs
  let (nextPrev, bs) ← readBool bs
  return (⟨primary, secondary, if nextPrev then .nextPrev else .upDown⟩, bs)

/-- The fields of `C` in the order of R30's table. -/
def readConfigFields : Reader Config := fun bs => do
  let (invertInputs, bs) ← readBool bs
  let (invertOutputs, bs) ← readBool bs
  let (splitLines, bs) ← readBool bs
  let (ignoreReset, bs) ← readBool bs
  let (chipKind, bs) ← readChipKind bs
  let (pinMap, bs) ← readPinMap bs
  let (portMap, bs) ← readPortMap bs
  let (pinWidth, bs) ← readNat bs
  let (pressedLevel, bs) ← readBool bs
  let (buttons, bs) ← readList readButton bs
  let (rotaryPairs, bs) ← readList readRotaryPair bs
  return (⟨invertInputs, invertOutputs, splitLines, ignoreReset, chipKind, pinMap, portMap, pinWidth, pressedLevel,
    buttons, rotaryPairs⟩, bs)

/-- `cfg`: a flag 0 names `Config.boot` (R83 writes a configuration by its name); a flag 1 is followed by the fields
of any other configuration. -/
def readConfig : Reader Config := fun bs => do
  let (explicit, bs) ← readBool bs
  if explicit then
    let (c, bs) ← readConfigFields bs
    if c = Config.boot then none else return (c, bs)
  else return (Config.boot, bs)

def readCycle : Reader Instr := fun bs => do
  let (levels, bs) ← readNat bs
  let (snap, bs) ← readSnap bs
  let (led, bs) ← readBool bs
  let (sound, bs) ← readBool bs
  return (.cycle levels snap led sound, bs)

def readSense (line : Selector) : Reader Instr := fun bs => do
  let (raw, bs) ← readBool bs
  let (snap, bs) ← readSnap bs
  return (.sense line raw snap, bs)

def readAtnEdge : Reader Instr := fun bs => do
  let (atnAsserted, bs) ← readBool bs
  let (snap, bs) ← readSnap bs
  return (.atnEdge atnAsserted snap, bs)

def readPortOut : Reader Instr := fun bs => do
  let (status, bs) ← readByte bs
  let (dir, bs) ← readByte bs
  return (.portOut status dir, bs)

def readGate : Reader Instr := fun bs => do
  let (atnaOut, bs) ← readBool bs
  let (atnAsserted, bs) ← readBool bs
  let (dirAtna, bs) ← readBool bs
  return (.gate atnaOut atnAsserted dirAtna, bs)

def readRefresh : Reader Instr := fun bs => do
  let (dataLow, bs) ← readBool bs
  let (clockLow, bs) ← readBool bs
  let (led, bs) ← readBool bs
  let (sound, bs) ← readBool bs
  return (.refresh dataLow clockLow led sound, bs)

def readSample : Reader Instr := fun bs => do
  let (i, bs) ← readNat bs
  let (raw, bs) ← readBool bs
  return (.sample i raw, bs)

def readRotary : Reader Instr := fun bs => do
  let (j, bs) ← readNat bs
  let (primaryPressed, bs) ← readBool bs
  return (.rotary j primaryPressed, bs)

def readReset : Reader Instr := fun bs => do
  let (c, bs) ← readConfig bs
  return (.reset c, bs)

/-- The operand record that follows `op` (R79). A reserved op byte has none: the op byte alone makes the call one to
refuse (R81, R201), so whatever bytes follow it are dropped unread (notes/assumptions/21.md). -/
def readOperands (op : Byte) : Reader Instr := fun bs =>
  if opSelector op ≠ 0 ∧ opNumber op ≠ 2 then some (.reserved op, [])
  else match (opNumber op).toNat with
    | 0 => readReset bs
    | 1 => readCycle bs
    | 2 => readSense (opSelector op) bs
    | 3 => readAtnEdge bs
    | 4 => readPortOut bs
    | 5 => readGate bs
    | 6 => readRefresh bs
    | 7 => readSample bs
    | 8 => readRotary bs
    | _ => some (.reserved op, [])

/-- One call: an op byte and exactly its operand record (R82), or a reserved op byte whatever follows it (R201), or the
reason why the bytes are no call. -/
def decode : List Byte → Except Reject Instr
  | [] => .error .noOpByte
  | op :: bs =>
    match readOperands op bs with
    | some (i, []) => .ok i
    | _ => .error (.badRecord op)

/-- How many bytes the operand record of `op` has when all of them are 0. -/
def zeroRecordLength (op : Byte) : Nat :=
  if opSelector op ≠ 0 ∧ opNumber op ≠ 2 then 0
  else match (opNumber op).toNat with
    | 0 => 1
    | 1 => 6
    | 2 => 4
    | 3 => 4
    | 4 => 2
    | 5 => 3
    | 6 => 4
    | 7 => 2
    | 8 => 2
    | _ => 0

/-- The call whose first `nbits / 8` bytes are `w`, low byte first, and whose further operand bytes are 0. -/
def tableWordCall (nbits w : Nat) : List Byte :=
  let given := (List.range (nbits / 8)).map fun k => BitVec.ofNat 8 (w >>> (8 * k))
  given ++ List.replicate (zeroRecordLength (given.headD 0) + 1 - given.length) 0

/-- The instruction the decoder reads from a row's word of spec/opcode_table.json, operand bytes of 0 following it. -/
def decodeTableWord (nbits w : Nat) : Option Instr := (decode (tableWordCall nbits w)).toOption

/-! The encoder, from the same tables. -/

def boolByte (b : Bool) : Byte := if b then 1 else 0

/-- The base-128 spelling of `n`, with `fuel ≥ n` groups to spend. -/
def natBytes : Nat → Nat → List Byte
  | 0, n => [BitVec.ofNat 8 n]
  | fuel + 1, n =>
    if n < 128 then [BitVec.ofNat 8 n] else BitVec.ofNat 8 (n % 128 + 128) :: natBytes fuel (n / 128)

def encodeNat (n : Nat) : List Byte := natBytes n n

def encodeList {α : Type} (enc : α → List Byte) (xs : List α) : List Byte :=
  encodeNat xs.length ++ xs.flatMap enc

def encodeSnap : Option PortState → List Byte
  | none => [1]
  | some p => [0, p.dir, p.out]

def encodeChipKind : ChipKind → Byte
  | .variantA => 0
  | .variantB => 1
  | .absent => 2

def encodePinMap (p : PinMap) : List Byte :=
  encodeNat p.atn ++ encodeNat p.data ++ encodeNat p.clock ++ encodeNat p.srq ++ encodeNat p.reset ++
    encodeNat p.outData ++ encodeNat p.outClock ++ encodeNat p.led ++ encodeNat p.sound

def encodePortMap (p : PortMap) : List Byte :=
  encodeNat p.dataIn ++ encodeNat p.dataOut ++ encodeNat p.clockIn ++ encodeNat p.clockOut ++
    encodeNat p.atnaOut ++ encodeNat p.atnIn

def encodeButton (b : Button) : List Byte := encodeNat b.pin ++ encodeNat b.repeatThreshold.toNat

def encodeRotaryPair (r : RotaryPair) : List Byte :=
  encodeNat r.primary ++ encodeNat r.secondary ++ [boolByte (r.kind == .nextPrev)]

def encodeConfigFields (c : Config) : List Byte :=
  [boolByte c.invertInputs, boolByte c.invertOutputs, boolByte c.splitLines, boolByte c.ignoreReset,
    encodeChipKind c.chipKind] ++ encodePinMap c.pinMap ++ encodePortMap c.portMap ++ encodeNat c.pinWidth ++
    [boolByte c.pressedLevel] ++ encodeList encodeButton c.buttons ++ encodeList encodeRotaryPair c.rotaryPairs

def encodeConfig (c : Config) : List Byte := if c = Config.boot then [0] else 1 :: encodeConfigFields c

/-- The op byte of an instruction (R79). -/
def Instr.opByte : Instr → Byte
  | .reset _ => 0x00
  | .cycle _ _ _ _ => 0x10
  | .sense line _ _ => 2#4 ++ line
  | .atnEdge _ _ => 0x30
  | .portOut _ _ => 0x40
  | .gate _ _ _ => 0x50
  | .refresh _ _ _ _ => 0x60
  | .sample _ _ => 0x70
  | .rotary _ _ => 0x80
  | .reserved op => op

/-- The operand record of an instruction (R79, R80). -/
def Instr.record : Instr → List Byte
  | .reset c => encodeConfig c
  | .cycle levels snap led sound => encodeNat levels ++ encodeSnap snap ++ [boolByte led, boolByte sound]
  | .sense _ raw snap => boolByte raw :: encodeSnap snap
  | .atnEdge atnAsserted snap => boolByte atnAsserted :: encodeSnap snap
  | .portOut status dir => [status, dir]
  | .gate atnaOut atnAsserted dirAtna => [boolByte atnaOut, boolByte atnAsserted, boolByte dirAtna]
  | .refresh dataLow clockLow led sound => [boolByte dataLow, boolByte clockLow, boolByte led, boolByte sound]
  | .sample i raw => encodeNat i ++ [boolByte raw]
  | .rotary j primaryPressed => encodeNat j ++ [boolByte primaryPressed]
  | .reserved _ => []

/-- An operation is one op byte and its operand record (R82). -/
def encode (i : Instr) : List Byte := i.opByte :: i.record

/-- The pseudo-instruction `IDLE` is CYCLE with the same operands (R84). -/
def Instr.idle (levels : Mask) (snap : Option PortState) (led sound : Bool) : Instr := .cycle levels snap led sound

/-- The pseudo-instruction `REPEAT n { ... }` is `n` copies of the enclosed operations in order (R84). -/
def Instr.repeated (n : Nat) (ops : List Instr) : List Instr := (List.replicate n ops).flatten

end Sys2Proof
end

