-- ==== Sys2Proof/Machine/State.lean ====
section
/-! DEFINITION. The state of the block (spec/10_state.md), as plain data: the record `S` and the configuration `C` of
the spec; the sticky refusal mark of R201; the result of the last operation (R10, R78); the GPIO registers of the
register access layer as R53 gives them; and the calls the enclosing loop has handed over. -/

namespace Sys2Proof.Machine

/-- The five bus lines, a closed set (R21). -/
inductive LineId where
  | atn
  | data
  | clock
  | srq
  | reset
deriving DecidableEq, Repr

/-- The three Booleans of a bus line (R22). `true` in `sensedHigh` = released at the last sample. -/
structure Line where
  sensedHigh : Bool
  pulledLowByDrive : Bool
  pulledLowByChipOutput : Bool
deriving DecidableEq, Repr

/-- `S.line[l]` for the five lines (R20, R21). -/
structure Lines where
  atn : Line
  data : Line
  clock : Line
  srq : Line
  reset : Line
deriving DecidableEq, Repr

/-- `S.fed`: the values last passed to `SetPortInput`, `true` = asserted (R29). -/
structure Fed where
  atn : Bool
  data : Bool
  clock : Bool
deriving DecidableEq, Repr

/-- `S.pin[i]` (R33). Raw values are pin levels, `true` = the pin reads high. -/
structure InputPin where
  currentRaw : Bool
  previousRaw : Bool
  validStreak : U32
  repeatCounter : U32
deriving DecidableEq, Repr

/-- The kinds of a button event (R77); `repeated` is the spec's `Repeat`. -/
inductive ButtonEvent where
  | press
  | release
  | repeated
deriving DecidableEq, Repr

/-- The direction of a rotary event (R77): `first` = UP or NEXT, `second` = DOWN or PREV. -/
inductive Direction where
  | first
  | second
deriving DecidableEq, Repr

/-- The events emitted upward (R77, R209). -/
inductive Event where
  | button (i : Nat) (k : ButtonEvent)
  | rotary (j : Nat) (d : Direction)
deriving DecidableEq, Repr

/-- Pin function values (R76). -/
inductive PinDir where
  | input
  | output
deriving DecidableEq, Repr

/-- A recorded primitive call of the hardware trace `HW` (R10, R53, R55). `GetPortDirection` reads are not recorded
(R192). -/
inductive HwCall where
  | readPinLevels (levels : Mask)
  | writePinsSet (mask : Mask)
  | writePinsClear (mask : Mask)
  | writePinFunction (pin : Nat) (dir : PinDir)
  | setPortInput (bit : Nat) (asserted : Bool)
  | signalEdgeInput (asserted : Bool)
  | setLevelFlag (asserted : Bool)
deriving DecidableEq, Repr

/-- The value an operation returns, beside its events and its trace. -/
inductive Result where
  /-- The operation returns no value (RESET, ATNEDGE, PORTOUT, SAMPLE, ROTARY), or nothing ran yet. -/
  | nothing
  /-- SENSE: the stored sample and the effective asserted value (R103). -/
  | sensed (sensedHigh asserted : Bool)
  /-- GATE: the gate's value (R121). -/
  | gate (pull : Bool)
  /-- REFRESH: the set mask and the clear mask (R150). -/
  | masks (set clear : Mask)
  /-- CYCLE: the reported RESET condition; the events and the trace stand in `Output` (R78). -/
  | cycle (resetAsserted : Bool)
deriving DecidableEq, Repr

/-- What the last operation handed back: its events, its hardware trace and its value (R78, R209). -/
structure Output where
  events : List Event
  hw : List HwCall
  result : Result
deriving DecidableEq, Repr

/-- The GPIO registers of the register access layer, as R53 gives them: bit `i` of `latch` is the output latch of pin
`i`, and bit `i` of `outputs` is 1 when the function of pin `i` is `Output`. -/
structure Gpio where
  latch : Mask
  outputs : Mask
deriving DecidableEq, Repr

/-- The closed list of refusal reasons (R201). -/
inductive Reason where
  | reservedOpcode
  | invalidLineId
  | invalidPinId
  | invalidPairId
  | illFormedConfig
  | snapshotMismatch
  | noChip
  | notReset
deriving DecidableEq, Repr

/-- The whole state. `cfg`, `lines`, `pullDataLow`, `lastApplied`, `fed`, `resetAsserted` and `pins` are the spec's
`C` and `S` (R20, R30), `mark` is its refusal mark (R201); `gpio` is the register access layer's (R36, R53); `out`
(notes/assumptions/17.md) and `calls` (notes/assumptions/3.md) are the model's own. -/
structure State where
  /-- `C`; `none` before the first RESET (R205). -/
  cfg : Option Config
  lines : Lines
  /-- The GateState (R26). -/
  pullDataLow : Bool
  /-- The pair of the last OnChipPortOutput decode since RESET (R28). -/
  lastApplied : Option PortState
  fed : Fed
  /-- The "bus RESET-asserted condition" (R32). -/
  resetAsserted : Bool
  pins : List InputPin
  /-- The sticky mark `refused(reason)` (R201); `none` while nothing was refused. -/
  mark : Option Reason
  gpio : Gpio
  out : Output
  /-- The calls the enclosing loop has handed over, oldest first, each an op byte and its operand record (R82). -/
  calls : List (List Byte)
deriving DecidableEq, Repr

/-- The block raises no exception and has no fault (R200; spec/93_implementation_defined.md: no item is `fault`): a
step never faults. -/
inductive Fault where
deriving DecidableEq, Repr

/-- Why a step gives no next state. `marked` is the refused state: the state of the call with the sticky mark set,
no event, no trace and no value (R201). -/
inductive Refusal where
  /-- An instruction that has no meaning in this model yet; no arm of `exec` raises it. Safe. -/
  | notModelled (mnemonic : String)
  /-- Raised by `execReserved`: an op byte that R81 reserves (R201). Safe: the spec gives the call no meaning. -/
  | reservedOpcode (marked : State)
  /-- Raised by `execSense`: a line id above 4 (R103, R201). Safe: the spec gives the call no meaning. -/
  | invalidLineId (marked : State)
  /-- Raised by `execSample`: `i ≥ N_BUTTONS` (R171, R201). Safe: the spec gives the call no meaning. -/
  | invalidPinId (marked : State)
  /-- Raised by `execRotary`: `j` not below the number of pairs (R177, R201). Safe: the spec gives the call no
  meaning. -/
  | invalidPairId (marked : State)
  /-- Raised by `execReset`: a configuration that fails R39 (R202). Safe: the spec gives the call no meaning. -/
  | illFormedConfig (marked : State)
  /-- Raised by `execCycle`, `execAtnEdge` and `execSense` of ATN: the snapshot's presence disagrees with
  `C.chipKind` (R203). Safe: the spec gives the call no meaning. -/
  | snapshotMismatch (marked : State)
  /-- Raised by `execPortOut`: no chip is attached (R204). Safe: the spec gives the call no meaning. -/
  | noChip (marked : State)
  /-- Raised by every operation but RESET before the first RESET (R205). Safe: the spec gives the call no meaning. -/
  | notReset (marked : State)
  /-- Raised by `step`: the bytes at the head of `calls` are no call of the block (notes/assumptions/10.md). Safe: no
  operation was called. -/
  | notACall (why : Reject) (state : State)
deriving DecidableEq, Repr

/-- A line as R38 resets it: released, with no pull. -/
def Line.released : Line where
  sensedHigh := true
  pulledLowByDrive := false
  pulledLowByChipOutput := false

/-- The five lines as R38 resets them. -/
def Lines.released : Lines where
  atn := .released
  data := .released
  clock := .released
  srq := .released
  reset := .released

/-- An operation that produced nothing. -/
def Output.empty : Output where
  events := []
  hw := []
  result := .nothing

/-- Before the first RESET: no configuration, so every operation but RESET is refused (R205). The other fields are
read by no operation before a RESET has written them, except the GPIO registers, which the spec leaves open
(DESIGN CHOICE, notes/assumptions/4.md, unsafe: all latches 0, all pins inputs). -/
def State.powerOn : State where
  cfg := none
  lines := .released
  pullDataLow := false
  lastApplied := none
  fed := ⟨false, false, false⟩
  resetAsserted := false
  pins := []
  mark := none
  gpio := ⟨0, 0⟩
  out := .empty
  calls := []

/-- The machine right after `RESET cfg=Config.boot` (R38, R220 to R222): the values of R38, the trace of
HardwareInit and ChipInit, and the GPIO registers those calls leave. The configuration is a DESIGN CHOICE
(notes/assumptions/2.md). -/
def State.reset : State where
  cfg := some Config.boot
  lines := .released
  pullDataLow := false
  lastApplied := none
  fed := ⟨false, false, false⟩
  resetAsserted := false
  pins := [⟨true, true, 0, 0⟩, ⟨true, true, 0, 0⟩]
  mark := none
  gpio := ⟨0, 0x1E0⟩
  out :=
    { events := []
      hw :=
        [.writePinsSet 0, .writePinsClear 0x1E0,
          .writePinFunction 0 .input, .writePinFunction 1 .input, .writePinFunction 2 .input,
          .writePinFunction 3 .input, .writePinFunction 4 .input, .writePinFunction 9 .input,
          .writePinFunction 10 .input,
          .writePinFunction 5 .output, .writePinFunction 6 .output, .writePinFunction 7 .output,
          .writePinFunction 8 .output,
          .setPortInput 7 false, .setPortInput 0 false, .setPortInput 2 false]
      result := .nothing }
  calls := []

end Sys2Proof.Machine
end

