-- ==== Sys2Proof/Machine/Operands.lean ====
section
/-! DEFINITION. Operand forms: bits of masks and port bytes, the line a selector names, the levels of a level mask,
and the presence check of a snapshot (spec/30_encoding.md R70 to R76; spec/60_exceptions.md R203). -/

namespace Sys2Proof.Machine

open Sys2Proof

/-- `bit(p)`, the mask `1 << p` (R8). -/
def pinBit (p : Nat) : Mask := 1 <<< p

/-- `m` with every bit of `clear` set to 0. -/
def maskWithout (m clear : Mask) : Mask := m ^^^ (m &&& clear)

/-- Bit `i` of a port byte (R70, R72); the direction mask and the output value are read the same way. -/
def portBit (b : Byte) (i : Nat) : Bool := b.getLsbD i

/-- The line that a SENSE selector names (R21, R79); `none` for `5..15`. -/
def LineId.ofSelector (sel : Selector) : Option LineId :=
  match sel.toNat with
  | 0 => some .atn
  | 1 => some .data
  | 2 => some .clock
  | 3 => some .srq
  | 4 => some .reset
  | _ => none

/-- The GPIO pin that a line is sensed on, in split-pin and shared-pin mode alike (R74). -/
def linePin (c : Config) : LineId → Nat
  | .atn => c.pinMap.atn
  | .data => c.pinMap.data
  | .clock => c.pinMap.clock
  | .srq => c.pinMap.srq
  | .reset => c.pinMap.reset

/-- `N_BUTTONS`. -/
def nButtons (c : Config) : Nat := c.buttons.length

/-- `PinMap.BTN[i]`. -/
def buttonPin (c : Config) (i : Nat) : Nat := ((c.buttons[i]?).map Button.pin).getD 0

/-- `C.repeatThreshold[i]`. -/
def threshold (c : Config) (i : Nat) : U32 := ((c.buttons[i]?).map Button.repeatThreshold).getD 1

/-- The `PIN_WIDTH`-bit value of the operand `levels` (R80): the width has no bit at or above `PIN_WIDTH`
(notes/assumptions/6.md). -/
def pinLevels (c : Config) (levels : Mask) : Mask := levels % 2 ^ c.pinWidth

/-- The raw level of a pin in a level mask (R74). -/
def rawLevel (levels : Mask) (pin : Nat) : Bool := levels.testBit pin

/-- Whether a chip is attached. -/
def chipAttached (c : Config) : Bool := c.chipKind != .absent

/-- R203: a snapshot must be given exactly when a chip is attached. -/
def snapshotMatches (c : Config) (snap : Option PortState) : Bool := snap.isSome == chipAttached c

/-- The ATNA output bit that the gate reads on an ATN transition: the snapshot's, and 0 with no chip (R124, R125). -/
def atnaOutOf (c : Config) (snap : Option PortState) : Bool :=
  (snap.map fun p => portBit p.out c.portMap.atnaOut).getD false

/-- The direction bit of the ATNA pin: the snapshot's; unused, and 1, with no chip (R125). -/
def atnaDirOf (c : Config) (snap : Option PortState) : Bool :=
  (snap.map fun p => portBit p.dir c.portMap.atnaOut).getD true

end Sys2Proof.Machine
end

