-- ==== Sys2Proof/Machine/Ops.lean ====
section
/-! DEFINITION. The named operations on the state: reads and writes of the lines and the input pins, the hardware and
chip primitives, emitting an event, handing back a value, and refusing. The block takes no exception and returns from
none (spec/60_exceptions.md R200, R211); in their place stands the one shared operation `State.refuse` (R201), and
`State.enter`, which every operation but RESET begins with (R205). -/

namespace Sys2Proof.Machine

open Sys2Proof

/-- The outcome of one operation. -/
abbrev StepOutcome := Host.Outcome State Fault Refusal

/-! Bus lines. -/

/-- `S.line[l]`. -/
def State.line (s : State) : LineId → Line
  | .atn => s.lines.atn
  | .data => s.lines.data
  | .clock => s.lines.clock
  | .srq => s.lines.srq
  | .reset => s.lines.reset

/-- `S.line[l].sensedHigh <- v`. -/
def State.setSensed (s : State) (l : LineId) (v : Bool) : State :=
  match l with
  | .atn => { s with lines := { s.lines with atn := { s.lines.atn with sensedHigh := v } } }
  | .data => { s with lines := { s.lines with data := { s.lines.data with sensedHigh := v } } }
  | .clock => { s with lines := { s.lines with clock := { s.lines.clock with sensedHigh := v } } }
  | .srq => { s with lines := { s.lines with srq := { s.lines.srq with sensedHigh := v } } }
  | .reset => { s with lines := { s.lines with reset := { s.lines.reset with sensedHigh := v } } }

/-- `S.line[l].sensedHigh`. -/
def State.sensedHigh (s : State) (l : LineId) : Bool := (s.line l).sensedHigh

/-- Reads `S.line[l].pulledLowByDrive`: stored for DATA, hard-wired `false` for the other lines (R23). -/
def State.pulledLowByDrive (s : State) (l : LineId) : Bool :=
  match l with
  | .data => s.lines.data.pulledLowByDrive
  | .atn | .clock | .srq | .reset => false

/-- Reads `S.line[l].pulledLowByChipOutput`: stored for DATA and CLOCK, hard-wired `false` for the others (R23). -/
def State.pulledLowByChipOutput (s : State) (l : LineId) : Bool :=
  match l with
  | .data => s.lines.data.pulledLowByChipOutput
  | .clock => s.lines.clock.pulledLowByChipOutput
  | .atn | .srq | .reset => false

/-- `S.line[DATA].pulledLowByDrive <- v`, the one drive pull any operation writes (R23). -/
def State.setDataDrivePull (s : State) (v : Bool) : State :=
  { s with lines := { s.lines with data := { s.lines.data with pulledLowByDrive := v } } }

/-- `S.line[DATA].pulledLowByChipOutput <- v`. -/
def State.setDataChipPull (s : State) (v : Bool) : State :=
  { s with lines := { s.lines with data := { s.lines.data with pulledLowByChipOutput := v } } }

/-- `S.line[CLOCK].pulledLowByChipOutput <- v`. -/
def State.setClockChipPull (s : State) (v : Bool) : State :=
  { s with lines := { s.lines with clock := { s.lines.clock with pulledLowByChipOutput := v } } }

/-- The effective value of a line (R25), recomputed on every read. -/
def State.effHigh (s : State) (l : LineId) : Bool :=
  s.sensedHigh l && !s.pulledLowByDrive l && !s.pulledLowByChipOutput l

/-- `asserted(l) = ¬effHigh(l)` (R25). -/
def State.asserted (s : State) (l : LineId) : Bool := !s.effHigh l

/-! Input pins. -/

/-- An input pin as R38 resets it. -/
def InputPin.released (c : Config) : InputPin where
  currentRaw := !c.pressedLevel
  previousRaw := !c.pressedLevel
  validStreak := 0
  repeatCounter := 0

/-- `S.pin[i]`. A list shorter than `N_BUTTONS` is reached by no run; the missing entry reads as R38 resets it
(notes/assumptions/13.md). -/
def State.pin (s : State) (c : Config) (i : Nat) : InputPin := (s.pins[i]?).getD (InputPin.released c)

/-- `S.pin[i] <- p`. -/
def State.setPin (s : State) (i : Nat) (p : InputPin) : State := { s with pins := s.pins.set i p }

/-! Hardware and chip primitives, each recorded in the trace (R10, R53, R55). -/

/-- Append a call to the trace. -/
def State.record (s : State) (h : HwCall) : State := { s with out := { s.out with hw := s.out.hw ++ [h] } }

/-- `ReadPinLevels() -> levels`, with no side effect (R53, R54). -/
def State.readPinLevels (s : State) (levels : Mask) : State := s.record (.readPinLevels levels)

/-- `WritePinsSet(m)`: the latches of the pins in `m` become 1 (R53). -/
def State.writePinsSet (s : State) (m : Mask) : State :=
  { s.record (.writePinsSet m) with gpio := { s.gpio with latch := s.gpio.latch ||| m } }

/-- `WritePinsClear(m)`: the latches of the pins in `m` become 0 (R53). -/
def State.writePinsClear (s : State) (m : Mask) : State :=
  { s.record (.writePinsClear m) with gpio := { s.gpio with latch := maskWithout s.gpio.latch m } }

/-- `WritePinFunction(p, d)`: the function of pin `p` becomes `d` (R53). -/
def State.writePinFunction (s : State) (p : Nat) (d : PinDir) : State :=
  let outputs := match d with
    | .output => s.gpio.outputs ||| pinBit p
    | .input => maskWithout s.gpio.outputs (pinBit p)
  { s.record (.writePinFunction p d) with gpio := { s.gpio with outputs := outputs } }

/-- The same function written to a list of pins, in order. -/
def State.writePinFunctions (s : State) (d : PinDir) (ps : List Nat) : State :=
  ps.foldl (fun s p => s.writePinFunction p d) s

/-- The level that pin `p` drives onto the wire: its latch when its function is `Output`, nothing otherwise (R53). -/
def Gpio.drives (g : Gpio) (p : Nat) : Option Bool := if g.outputs.testBit p then some (g.latch.testBit p) else none

/-- `Chip.SetPortInput(bit, v)` (R55). What the chip does with it is the chip's (R5). -/
def State.setPortInput (s : State) (bit : Nat) (v : Bool) : State := s.record (.setPortInput bit v)

/-- The active variant's ATN input primitive: `SignalEdgeInput` on A, `SetLevelFlag` on B, none with no chip
(R126). -/
def State.signalAtn (s : State) (k : ChipKind) (v : Bool) : State :=
  match k with
  | .variantA => s.record (.signalEdgeInput v)
  | .variantB => s.record (.setLevelFlag v)
  | .absent => s

/-! Events and results. -/

/-- `emit E` (R9). -/
def State.emit (s : State) (e : Event) : State := { s with out := { s.out with events := s.out.events ++ [e] } }

/-- Emit the button event of a sample, if there is one. -/
def State.emitButton (s : State) (i : Nat) : Option ButtonEvent → State
  | none => s
  | some k => s.emit (.button i k)

/-- Hand back a value. -/
def State.withResult (s : State) (r : Result) : State := { s with out := { s.out with result := r } }

/-! Refusing. -/

/-- The refusal of a reason, carrying the refused state. -/
def Reason.refusal (r : Reason) (marked : State) : Refusal :=
  match r with
  | .reservedOpcode => .reservedOpcode marked
  | .invalidLineId => .invalidLineId marked
  | .invalidPinId => .invalidPinId marked
  | .invalidPairId => .invalidPairId marked
  | .illFormedConfig => .illFormedConfig marked
  | .snapshotMismatch => .snapshotMismatch marked
  | .noChip => .noChip marked
  | .notReset => .notReset marked

/-- The refused state: the sticky mark, and no event, no call and no value (R201). -/
def State.marked (s : State) (r : Reason) : State := { s with mark := some r, out := .empty }

/-- `refuse <Reason>` (R9, R201). -/
def State.refuse (s : State) (r : Reason) : StepOutcome := .refused (r.refusal (s.marked r))

/-- How every operation but RESET begins: a marked state stays refused (R201), before the first RESET the call is
refused `NotReset` (R205, first in the order of R207), and otherwise the operation runs with the configuration, an
empty event list and an empty trace. -/
def State.enter (s : State) (run : Config → State → StepOutcome) : StepOutcome :=
  match s.mark with
  | some r => s.refuse r
  | none =>
    match s.cfg with
    | none => s.refuse .notReset
    | some c => run c { s with out := .empty }

end Sys2Proof.Machine
end

