-- ==== Sys2Proof/Machine/Flags.lean ====
section
/-! DEFINITION. The flag computations: the normalised sense level, the forced condition, the gate, the pulls decoded
from the chip's port, and the reported RESET condition (spec/40_busline.md R101, R102, R106; spec/41_chipbridge.md
R121 to R124, R131). -/

namespace Sys2Proof.Machine

open Sys2Proof

/-- `senseLevel(raw) = raw ⊕ C.invertInputs`; `true` = the line is high (R101). -/
def senseLevel (c : Config) (raw : Bool) : Bool := raw ^^ c.invertInputs

/-- `forced(l)`: the drive pulls the line, so its pin cannot be trusted as an input sample (R102). -/
def State.forced (s : State) (l : LineId) : Bool := s.pulledLowByDrive l || s.pulledLowByChipOutput l

/-- The gate function (R121): XOR on variant A, AND on variant B, both off while the ATNA pin is an input (R123);
AND with no guard with no chip (R124). -/
def gate (c : Config) (atnaOut atnAsserted dirAtna : Bool) : Bool :=
  match c.chipKind with
  | .absent => atnaOut && atnAsserted
  | .variantA => if dirAtna then atnaOut ^^ atnAsserted else false
  | .variantB => if dirAtna then atnaOut && atnAsserted else false

/-- Whether the chip wants a line low: its output bit is set, or its pin is configured as input (R71, R131). -/
def wantsLow (status dir : Byte) (bit : Nat) : Bool := portBit status bit || !portBit dir bit

/-- The reported RESET condition for a sample of RESET (R106). -/
def resetCondition (c : Config) (sensedHigh : Bool) : Bool := !sensedHigh && !c.ignoreReset

end Sys2Proof.Machine
end

