-- ==== Sys2Proof/Machine/ChipBridge.lean ====
section
/-! DEFINITION. ChipBridge: GATE, ATNEDGE, PORTOUT and the internal step of input propagation
(spec/41_chipbridge.md). -/

namespace Sys2Proof.Machine

open Sys2Proof

/-- R132: `S.line[DATA].pulledLowByDrive <- S.pullDataLow ∨ S.line[DATA].pulledLowByChipOutput`. -/
def State.restoreDataPull (s : State) : State :=
  s.setDataDrivePull (s.pullDataLow || s.pulledLowByChipOutput .data)

/-- The chip calls of an ATN transition (R125, R126). -/
def feedAtn (c : Config) (atnAsserted : Bool) (s : State) : State :=
  if chipAttached c then
    let s := s.setPortInput c.portMap.atnIn atnAsserted
    let s := { s with fed := { s.fed with atn := atnAsserted } }
    s.signalAtn c.chipKind atnAsserted
  else s

/-- OnAtnTransition (R125), for a snapshot that matches `C.chipKind`. -/
def atnTransition (c : Config) (atnAsserted : Bool) (snap : Option PortState) (s : State) : State :=
  let s := feedAtn c atnAsserted s
  let s := { s with pullDataLow := gate c (atnaOutOf c snap) atnAsserted (atnaDirOf c snap) }
  s.restoreDataPull

/-- OnChipPortOutput (R130), for an attached chip. -/
def decodePort (c : Config) (status dir : Byte) (s : State) : State :=
  let s := { s with
    pullDataLow := gate c (portBit status c.portMap.atnaOut) (s.asserted .atn) (portBit dir c.portMap.atnaOut) }
  let s := s.setDataChipPull (wantsLow status dir c.portMap.dataOut)
  let s := s.setClockChipPull (wantsLow status dir c.portMap.clockOut)
  let s := s.restoreDataPull
  { s with lastApplied := some ⟨dir, status⟩ }

/-- The chip's DATA-in bit, fed on a change of the effective value (R133). -/
def feedData (c : Config) (s : State) : State :=
  if s.asserted .data = s.fed.data then s
  else
    { s.setPortInput c.portMap.dataIn (s.asserted .data) with fed := { s.fed with data := s.asserted .data } }

/-- The chip's CLOCK-in bit, fed on a change of the effective value (R133). -/
def feedClock (c : Config) (s : State) : State :=
  if s.asserted .clock = s.fed.clock then s
  else
    { s.setPortInput c.portMap.clockIn (s.asserted .clock) with fed := { s.fed with clock := s.asserted .clock } }

/-- PropagateInputs (R133): DATA, then CLOCK; nothing with no chip. -/
def propagateInputs (c : Config) (s : State) : State :=
  if chipAttached c then feedClock c (feedData c s) else s

/-- `GATE` (R121): a pure function of its operands and `C.chipKind`. -/
def execGate (atnaOut atnAsserted dirAtna : Bool) (s : State) : StepOutcome :=
  s.enter fun c s => .next (s.withResult (.gate (gate c atnaOut atnAsserted dirAtna)))

/-- `ATNEDGE` (R125). -/
def execAtnEdge (atnAsserted : Bool) (snap : Option PortState) (s : State) : StepOutcome :=
  s.enter fun c s =>
    if snapshotMatches c snap then .next (atnTransition c atnAsserted snap s) else s.refuse .snapshotMismatch

/-- `PORTOUT` (R130). -/
def execPortOut (status dir : Byte) (s : State) : StepOutcome :=
  s.enter fun c s => if chipAttached c then .next (decodePort c status dir s) else s.refuse .noChip

end Sys2Proof.Machine
end

