-- ==== Sys2Proof/Machine/BusLine.lean ====
section
/-! DEFINITION. BusLineModel: SENSE, and the sensing phase of a cycle (spec/40_busline.md). -/

namespace Sys2Proof.Machine

open Sys2Proof

/-- DATA and CLOCK: the sample is forced high while the drive pulls the line (R102, R103). -/
def sensePullable (c : Config) (l : LineId) (raw : Bool) (s : State) : State :=
  s.setSensed l (if s.forced l then true else senseLevel c raw)

/-- SRQ: sampled, no side effect (R107). -/
def senseSrq (c : Config) (raw : Bool) (s : State) : State := s.setSensed .srq (senseLevel c raw)

/-- RESET: sampled, and the reported condition recomputed (R106). -/
def senseReset (c : Config) (raw : Bool) (s : State) : State :=
  let s := s.setSensed .reset (senseLevel c raw)
  { s with resetAsserted := resetCondition c (s.sensedHigh .reset) }

/-- ATN: always sampled from hardware (R105); a change of the asserted value calls OnAtnTransition once (R104). -/
def senseAtn (c : Config) (raw : Bool) (snap : Option PortState) (s : State) : State :=
  let old := !s.sensedHigh .atn
  let s := s.setSensed .atn (senseLevel c raw)
  let new := !s.sensedHigh .atn
  if new = old then s else atnTransition c new snap s

/-- SENSE of a line, for operands that are not refused (R103). -/
def senseLine (c : Config) (l : LineId) (raw : Bool) (snap : Option PortState) (s : State) : State :=
  match l with
  | .data => sensePullable c .data raw s
  | .clock => sensePullable c .clock raw s
  | .srq => senseSrq c raw s
  | .reset => senseReset c raw s
  | .atn => senseAtn c raw snap s

/-- `SENSE` (R103). -/
def execSense (sel : Selector) (raw : Bool) (snap : Option PortState) (s : State) : StepOutcome :=
  s.enter fun c s =>
    match LineId.ofSelector sel with
    | none => s.refuse .invalidLineId
    | some l =>
      if l = .atn ∧ snapshotMatches c snap = false then s.refuse .snapshotMismatch
      else
        let t := senseLine c l raw snap s
        .next (t.withResult (.sensed (t.sensedHigh l) (t.asserted l)))

/-- The sensing phase of a cycle: DATA, CLOCK, SRQ, RESET, then ATN (R108). -/
def sensingPhase (c : Config) (levels : Mask) (snap : Option PortState) (s : State) : State :=
  [LineId.data, .clock, .srq, .reset, .atn].foldl
    (fun s l => senseLine c l (rawLevel levels (linePin c l)) snap s) s

end Sys2Proof.Machine
end

