-- ==== Sys2Proof/Machine/Debounce.lean ====
section
/-! DEFINITION. InputDebouncer: SAMPLE, ROTARY, and the sampling phase of a cycle (spec/43_debounce.md). -/

namespace Sys2Proof.Machine

open Sys2Proof

/-- Auto-repeat (R174): in a pressed run past the threshold the counter counts down, and at 0 a Repeat fires and the
counter reloads. -/
def autoRepeat (t : U32) (pressed raw : Bool) (p : InputPin) : InputPin × Option ButtonEvent :=
  if t.toNat < p.validStreak.toNat ∧ raw = pressed then
    if p.repeatCounter - 1 = 0 then ({ p with repeatCounter := t }, some .repeated)
    else ({ p with repeatCounter := p.repeatCounter - 1 }, none)
  else (p, none)

/-- One sample of an input pin with threshold `t` (R171 to R175): the pin after it and the event it fires. -/
def samplePin (t : U32) (pressed raw : Bool) (p : InputPin) : InputPin × Option ButtonEvent :=
  let p := { p with currentRaw := raw }
  if raw = p.previousRaw then
    if p.validStreak.toNat < 2 ^ 32 - 1 then
      let p := { p with validStreak := p.validStreak + 1 }
      if p.validStreak = t then
        if raw = pressed then ({ p with repeatCounter := t }, some .press) else (p, some .release)
      else autoRepeat t pressed raw p
    else autoRepeat t pressed raw p
  else ({ p with validStreak := 0, previousRaw := raw, repeatCounter := 0 }, none)

/-- SAMPLE of a button below `N_BUTTONS` (R171). -/
def sampleButton (c : Config) (i : Nat) (raw : Bool) (s : State) : State :=
  let (p, e) := samplePin (threshold c i) c.pressedLevel raw (s.pin c i)
  (s.setPin i p).emitButton i e

/-- `SAMPLE` (R171). -/
def execSample (i : Nat) (raw : Bool) (s : State) : StepOutcome :=
  s.enter fun c s => if i < nButtons c then .next (sampleButton c i raw s) else s.refuse .invalidPinId

/-- The direction of a rotary pair whose primary was pressed: the secondary held gives `second` (R177, R178). -/
def rotaryDirection (c : Config) (r : RotaryPair) (s : State) : Direction :=
  if (s.pin c r.secondary).currentRaw = c.pressedLevel then .second else .first

/-- ROTARY of pair `j` (R177). -/
def rotaryPair (c : Config) (j : Nat) (r : RotaryPair) (primaryPressed : Bool) (s : State) : State :=
  if primaryPressed then s.emit (.rotary j (rotaryDirection c r s)) else s

/-- `ROTARY` (R177). -/
def execRotary (j : Nat) (primaryPressed : Bool) (s : State) : StepOutcome :=
  s.enter fun c s =>
    match c.rotaryPairs[j]? with
    | none => s.refuse .invalidPairId
    | some r => .next (rotaryPair c j r primaryPressed s)

/-- The name of a direction: UP/DOWN or NEXT/PREV by the pair's kind (R77). -/
inductive DirectionName where
  | up
  | down
  | next
  | prev
deriving DecidableEq, Repr

def directionName : RotaryKind → Direction → DirectionName
  | .upDown, .first => .up
  | .upDown, .second => .down
  | .nextPrev, .first => .next
  | .nextPrev, .second => .prev

/-- The SAMPLEs of a cycle, in button order (R179). -/
def sampleAll (c : Config) (levels : Mask) (s : State) : State :=
  (List.range (nButtons c)).foldl (fun s i => sampleButton c i (rawLevel levels (buttonPin c i)) s) s

/-- ROTARY of pair `j`, with the primary's Press looked up in the events so far (R179, R191). -/
def rotaryOf (c : Config) (s : State) (j : Nat) : State :=
  match c.rotaryPairs[j]? with
  | none => s
  | some r => rotaryPair c j r (decide (Event.button r.primary .press ∈ s.out.events)) s

/-- The ROTARYs of a cycle, in pair order (R179). -/
def rotaryAll (c : Config) (s : State) : State := (List.range c.rotaryPairs.length).foldl (rotaryOf c) s

/-- The sampling phase of a cycle (R179). -/
def samplingPhase (c : Config) (levels : Mask) (s : State) : State := rotaryAll c (sampleAll c levels s)

end Sys2Proof.Machine
end

