-- ==== Sys2Proof/Machine/OutputDriver.lean ====
section
/-! DEFINITION. OutputDriver: REFRESH (spec/42_output.md). -/

namespace Sys2Proof.Machine

open Sys2Proof

/-- The set mask and the clear mask of one Refresh (R75). -/
structure OutMasks where
  set : Mask
  clear : Mask
deriving DecidableEq, Repr

/-- Put a pin in the set mask or in the clear mask. -/
def OutMasks.drive (m : OutMasks) (pin : Nat) (level : Bool) : OutMasks :=
  if level then { m with set := m.set ||| pinBit pin } else { m with clear := m.clear ||| pinBit pin }

/-- The masks of a Refresh: the indicators (R151), then the dedicated pins in split-pin mode (R152) or the latch
clears of the shared pins (R153). -/
def refreshMasks (c : Config) (dataLow clockLow led sound : Bool) : OutMasks :=
  let m : OutMasks := ⟨0, 0⟩
  let m := m.drive c.pinMap.led led
  let m := m.drive c.pinMap.sound sound
  if c.splitLines then
    let m := m.drive c.pinMap.outData (dataLow ^^ c.invertOutputs)
    m.drive c.pinMap.outClock (clockLow ^^ c.invertOutputs)
  else { m with clear := m.clear ||| pinBit c.pinMap.data ||| pinBit c.pinMap.clock }

/-- The function of a shared pin: an output while the line is pulled, an input while it is released (R153). -/
def pullFunction (low : Bool) : PinDir := if low then .output else .input

/-- The function writes of a Refresh: none in split-pin mode (R152), DATA then CLOCK in shared-pin mode (R155). -/
def refreshFunctions (c : Config) (dataLow clockLow : Bool) (s : State) : State :=
  if c.splitLines then s
  else (s.writePinFunction c.pinMap.data (pullFunction dataLow)).writePinFunction c.pinMap.clock
    (pullFunction clockLow)

/-- The writes of a Refresh, in the order of R155. -/
def refreshPins (c : Config) (dataLow clockLow led sound : Bool) (s : State) : State :=
  let m := refreshMasks c dataLow clockLow led sound
  refreshFunctions c dataLow clockLow ((s.writePinsSet m.set).writePinsClear m.clear)

/-- `REFRESH` (R150). -/
def execRefresh (dataLow clockLow led sound : Bool) (s : State) : StepOutcome :=
  s.enter fun c s =>
    let m := refreshMasks c dataLow clockLow led sound
    .next ((refreshPins c dataLow clockLow led sound s).withResult (.masks m.set m.clear))

end Sys2Proof.Machine
end

