-- ==== Sys2Proof/Machine/Cycle.lean ====
section
/-! DEFINITION. CYCLE, the composed cycle (spec/44_cycle.md). -/

namespace Sys2Proof.Machine

open Sys2Proof

/-- Step 4: the decode runs exactly when a chip is attached and its port differs from the last one decoded (R193). -/
def decodeIfChanged (c : Config) (snap : Option PortState) (s : State) : State :=
  match snap with
  | none => s
  | some p => if s.lastApplied = some p then s else decodePort c p.out p.dir s

/-- Step 5: Refresh with the pulls the cycle has computed (R156). -/
def refreshFromPulls (c : Config) (led sound : Bool) (s : State) : State :=
  refreshPins c (s.pulledLowByDrive .data) (s.pulledLowByChipOutput .clock) led sound s

/-- The fixed step order of a cycle (R191). With matching operands none of the operations it calls refuses, so it
calls their bodies (R207, notes/assumptions/9.md). -/
def cycleSteps (c : Config) (levels : Mask) (snap : Option PortState) (led sound : Bool) (s : State) : State :=
  let s := s.readPinLevels levels
  let s := samplingPhase c levels s
  let s := sensingPhase c levels snap s
  let s := propagateInputs c s
  let s := decodeIfChanged c snap s
  let s := propagateInputs c s
  let s := refreshFromPulls c led sound s
  s.withResult (.cycle s.resetAsserted)

/-- `CYCLE` (R190, R191). -/
def execCycle (levels : Mask) (snap : Option PortState) (led sound : Bool) (s : State) : StepOutcome :=
  s.enter fun c s =>
    if snapshotMatches c snap then .next (cycleSteps c (pinLevels c levels) snap led sound s)
    else s.refuse .snapshotMismatch

end Sys2Proof.Machine
end

