-- ==== Sys2Proof/Machine/Admission.lean ====
section
/-! DEFINITION. Configuration well-formedness, the check of RESET (spec/10_state.md R39; spec/60_exceptions.md
R202). -/

namespace Sys2Proof.Machine

open Sys2Proof

/-- The pins that must be pairwise distinct in either mode (R39). -/
def sharedPins (c : Config) : List Nat :=
  [c.pinMap.atn, c.pinMap.data, c.pinMap.clock, c.pinMap.srq, c.pinMap.reset, c.pinMap.led, c.pinMap.sound] ++
    c.buttons.map Button.pin

/-- Every pin number in `PinMap`, the two dedicated outputs among them (notes/assumptions/7.md). -/
def allPins (c : Config) : List Nat := c.pinMap.outData :: c.pinMap.outClock :: sharedPins c

/-- The six entries of `PortMap`. -/
def portBits (c : Config) : List Nat :=
  [c.portMap.dataIn, c.portMap.dataOut, c.portMap.clockIn, c.portMap.clockOut, c.portMap.atnaOut, c.portMap.atnIn]

/-- A rotary pair names two distinct buttons below `N_BUTTONS` (R39). -/
def pairAdmitted (c : Config) (r : RotaryPair) : Bool :=
  r.primary != r.secondary && decide (r.primary < nButtons c) && decide (r.secondary < nButtons c)

/-- R39, the checks in its order. -/
def configAdmitted (c : Config) : Bool :=
  c.buttons.all (fun b => b.repeatThreshold != 0) &&
  (allPins c).all (fun p => decide (p < c.pinWidth)) &&
  decide (if c.splitLines then (allPins c).Nodup else (sharedPins c).Nodup) &&
  (portBits c).all (fun b => decide (b ≤ 7)) &&
  decide (portBits c).Nodup &&
  c.rotaryPairs.all (pairAdmitted c)

end Sys2Proof.Machine
end

