-- ==== Sys2Proof/Machine/Reset.lean ====
section
/-! DEFINITION. RESET (spec/70_reset_and_hazards.md R220 to R222), and the reserved op bytes (spec/30_encoding.md
R81). -/

namespace Sys2Proof.Machine

open Sys2Proof

/-- `C <- cfg` and `S <-` the values of R38. The GPIO registers and the calls of the loop are no part of `S`. -/
def State.fresh (s : State) (c : Config) : State where
  cfg := some c
  lines := .released
  pullDataLow := false
  lastApplied := none
  fed := ⟨false, false, false⟩
  resetAsserted := false
  pins := List.replicate (nButtons c) (InputPin.released c)
  mark := none
  gpio := s.gpio
  out := .empty
  calls := s.calls

/-- The pins HardwareInit makes inputs, in its order (R221). -/
def initInputs (c : Config) : List Nat :=
  [c.pinMap.atn] ++ (if c.splitLines then [c.pinMap.data, c.pinMap.clock] else []) ++
    [c.pinMap.srq, c.pinMap.reset] ++ c.buttons.map Button.pin

/-- The pins HardwareInit makes outputs, in its order (R221). -/
def initOutputs (c : Config) : List Nat :=
  (if c.splitLines then [c.pinMap.outData, c.pinMap.outClock] else []) ++ [c.pinMap.led, c.pinMap.sound]

/-- HardwareInit (R221). -/
def hardwareInit (c : Config) (s : State) : State :=
  let s := refreshPins c false false false false s
  let s := s.writePinFunctions .input (initInputs c)
  s.writePinFunctions .output (initOutputs c)

/-- ChipInit (R222). -/
def chipInit (c : Config) (s : State) : State :=
  if chipAttached c then
    ((s.setPortInput c.portMap.atnIn false).setPortInput c.portMap.dataIn false).setPortInput c.portMap.clockIn false
  else s

/-- RESET with an admitted configuration (R220). -/
def resetWith (c : Config) (s : State) : State := chipInit c (hardwareInit c (s.fresh c))

/-- `RESET` (R220). The check runs before any write (R202); a marked state stays refused (R201). -/
def execReset (c : Config) (s : State) : StepOutcome :=
  match s.mark with
  | some r => s.refuse r
  | none => if configAdmitted c then .next (resetWith c s) else s.refuse .illFormedConfig

/-- The decoder's `ReservedOpcode` (R81, R201), after `NotReset` (R207). DESIGN CHOICE (notes/assumptions/22.md, unsafe
for the reason's name alone): before the first RESET the op bytes `0x01`..`0x0F`, RESET's operation number with an illegal
selector, are refused `NotReset` too, though R205 exempts RESET. -/
def execReserved (_op : Byte) (s : State) : StepOutcome := s.enter fun _ s => s.refuse .reservedOpcode

end Sys2Proof.Machine
end

