-- ==== Sys2Proof/Machine/Dispatch.lean ====
section
/-! DEFINITION. The meaning of every instruction: one arm per constructor of Instr. -/

namespace Sys2Proof.Machine

open Sys2Proof

def exec (i : Instr) (s : State) : Host.Outcome State Fault Refusal :=
  match i with
  | .reset cfg => Sys2Proof.Machine.execReset cfg s
  | .cycle levels snap led sound => Sys2Proof.Machine.execCycle levels snap led sound s
  | .sense line raw snap => Sys2Proof.Machine.execSense line raw snap s
  | .atnEdge atnAsserted snap => Sys2Proof.Machine.execAtnEdge atnAsserted snap s
  | .portOut status dir => Sys2Proof.Machine.execPortOut status dir s
  | .gate atnaOut atnAsserted dirAtna => Sys2Proof.Machine.execGate atnaOut atnAsserted dirAtna s
  | .refresh dataLow clockLow led sound => Sys2Proof.Machine.execRefresh dataLow clockLow led sound s
  | .sample button raw => Sys2Proof.Machine.execSample button raw s
  | .rotary j primaryPressed => Sys2Proof.Machine.execRotary j primaryPressed s
  | .reserved op => Sys2Proof.Machine.execReserved op s

end Sys2Proof.Machine
end

