-- ==== Sys2Proof/Machine/Fetch.lean ====
section
/-! DEFINITION. Taking the next call of the enclosing loop (spec/70_reset_and_hazards.md R223, R225;
notes/assumptions/3.md). The block fetches no instructions (spec/20_memory.md R63); its next operation is whatever the
loop calls. -/

namespace Sys2Proof.Machine

open Sys2Proof

/-- What the next step is to run. -/
inductive NextCall where
  /-- The loop has handed over no call. -/
  | idle
  /-- The bytes of the next call are no call of the block. -/
  | malformed (why : Reject)
  /-- The next call, and the calls after it. -/
  | call (i : Instr) (rest : List (List Byte))
deriving DecidableEq, Repr

/-- Decode the call at the head of `calls`. -/
def nextCall (s : State) : NextCall :=
  match s.calls with
  | [] => .idle
  | bytes :: rest =>
    match decode bytes with
    | .ok i => .call i rest
    | .error why => .malformed why

/-- The calls left after the one that runs. -/
def State.withCalls (s : State) (rest : List (List Byte)) : State := { s with calls := rest }

/-- Bytes that are no call: a marked state stays refused (R201); otherwise nothing was called
(notes/assumptions/10.md). -/
def notACall (why : Reject) (s : State) : StepOutcome :=
  match s.mark with
  | some r => s.refuse r
  | none => .refused (.notACall why s)

/-- No call: the block does nothing until the loop calls it (R197). A marked state stays refused (R201). -/
def idleStep (s : State) : StepOutcome :=
  match s.mark with
  | some r => s.refuse r
  | none => .next s

end Sys2Proof.Machine
end

