-- ==== Sys2Proof/Machine/Step.lean ====
section
/-! DEFINITION. One step: take the next call of the enclosing loop and run it (spec/44_cycle.md R197;
spec/70_reset_and_hazards.md R223 to R225). -/

namespace Sys2Proof.Machine

open Sys2Proof

/-- One step of the machine. -/
def step (s : State) : Host.Outcome State Fault Refusal :=
  match nextCall s with
  | .idle => idleStep s
  | .malformed why => notACall why s
  | .call i rest => exec i (s.withCalls rest)

/-- `s` with the call of one row of spec/opcode_table.json as the one call of the loop (notes/assumptions/3.md). -/
def State.withFetchWord (s : State) (nbits w : Nat) : State := { s with calls := [tableWordCall nbits w] }

end Sys2Proof.Machine
end

