-- ==== Sys2Proof/Safety.lean ====
section
/-! DEFINITION. What counts as a good state of the block, in the terms the statements use. The block has no fault
(spec/60_exceptions.md R200): a run is safe while no call is refused (R201). -/

namespace Sys2Proof.Machine

open Sys2Proof

/-- The pull flags that no operation writes are stored as `false` (R23). -/
abbrev State.HardWired (s : State) : Prop :=
  s.lines.clock.pulledLowByDrive = false ∧
  s.lines.atn.pulledLowByDrive = false ∧ s.lines.atn.pulledLowByChipOutput = false ∧
  s.lines.srq.pulledLowByDrive = false ∧ s.lines.srq.pulledLowByChipOutput = false ∧
  s.lines.reset.pulledLowByDrive = false ∧ s.lines.reset.pulledLowByChipOutput = false

/-- An input pin between two samples, for threshold `t`: its two raw levels agree (R171), the repeat counter is in
`0 .. t` (R175), and it is 0 exactly outside a pressed run that has reached the threshold (R172, R174). -/
abbrev InputPin.Ok (t : U32) (pressed : Bool) (p : InputPin) : Prop :=
  p.currentRaw = p.previousRaw ∧ p.repeatCounter.toNat ≤ t.toNat ∧
  (p.repeatCounter = 0 ↔ p.previousRaw ≠ pressed ∨ p.validStreak.toNat < t.toNat)

/-- R132: DATA's drive pull is the gate's pull or the chip's. -/
abbrev State.DataPullTotal (s : State) : Prop :=
  s.lines.data.pulledLowByDrive = (s.pullDataLow || s.lines.data.pulledLowByChipOutput)

/-- The bridge's state while no decode has run since RESET (R28, R38): no chip pull. -/
abbrev State.NoChipPull (s : State) : Prop :=
  s.lines.data.pulledLowByChipOutput = false ∧ s.lines.clock.pulledLowByChipOutput = false

/-- The GPIO pins of a session with configuration `c`: since RESET the outputs are outputs and the inputs are inputs
(R221), and in shared-pin mode the latches of DATA and CLOCK are clear, so that a pull drives low (R153, R230). -/
abbrev State.GpioOk (c : Config) (s : State) : Prop :=
  (∀ p ∈ initOutputs c, s.gpio.outputs.testBit p = true) ∧
  (∀ p ∈ initInputs c, s.gpio.outputs.testBit p = false) ∧
  (c.splitLines = false →
    s.gpio.latch.testBit c.pinMap.data = false ∧ s.gpio.latch.testBit c.pinMap.clock = false)

/-- A state of a session with configuration `c`. -/
abbrev State.SessionOk (c : Config) (s : State) : Prop :=
  configAdmitted c = true ∧ s.pins.length = nButtons c ∧
  (∀ i, i < nButtons c → (s.pin c i).Ok (threshold c i) c.pressedLevel) ∧
  s.DataPullTotal ∧
  s.resetAsserted = (s.asserted .reset && !c.ignoreReset) ∧
  (s.lastApplied = none → s.NoChipPull) ∧
  s.GpioOk c ∧
  (c.chipKind = .absent → s.pullDataLow = false ∧ s.lastApplied = none ∧ s.fed = ⟨false, false, false⟩)

/-- The invariant of every state that a step reaches. -/
def State.Inv (s : State) : Prop := s.HardWired ∧ ∀ c, s.cfg = some c → s.SessionOk c

/-- The bus state is the one the last decoded port and the current ATN give: nothing is stale (R60, R226). Every CYCLE
keeps it; an ATNEDGE or SENSE called on its own with another snapshot need not. -/
def State.Coherent (c : Config) (s : State) : Prop :=
  ∀ p, s.lastApplied = some p →
    s.pullDataLow = gate c (portBit p.out c.portMap.atnaOut) (s.asserted .atn) (portBit p.dir c.portMap.atnaOut) ∧
    s.lines.data.pulledLowByChipOutput = wantsLow p.out p.dir c.portMap.dataOut ∧
    s.lines.clock.pulledLowByChipOutput = wantsLow p.out p.dir c.portMap.clockOut

/-- A list of calls made one after another, stopping at the first that gives no next state: a run of the block
(R197). -/
def execAll : List Instr → State → StepOutcome
  | [], s => .next s
  | i :: is, s =>
    match exec i s with
    | .next t => execAll is t
    | .fault f => .fault f
    | .refused r => .refused r

end Sys2Proof.Machine
end

