-- ==== Sys2Proof/WellFormed.lean ====
section
/-! DEFINITION. Well-formed instruction terms. An operand's type already bounds it (R80), so the one check is that
`reserved` holds an op byte that R81 reserves; whether an operand is legal in a given configuration (R39, R201) is
checked by the machine when the operation is called. -/

namespace Sys2Proof

/-- R81: the op bytes that name no operation: operation numbers `0x9`..`0xF`, and a non-zero selector on any
operation but SENSE (`0x2`). -/
def Instr.reservesOp (op : Byte) : Bool :=
  9 ≤ op.toNat / 16 || (op.toNat % 16 != 0 && op.toNat / 16 != 2)

/-- The check on an instruction term. -/
def Instr.wf : Instr → Bool
  | .reset _ => true
  | .cycle _ _ _ _ => true
  | .sense _ _ _ => true
  | .atnEdge _ _ => true
  | .portOut _ _ => true
  | .gate _ _ _ => true
  | .refresh _ _ _ _ => true
  | .sample _ _ => true
  | .rotary _ _ => true
  | .reserved op => Instr.reservesOp op

end Sys2Proof
end

