-- ==== Sys2Proof/Certificates/Slice0/Obligations.lean ====
section
/-! DEFINITION. The statements about the block. A docstring names the rules of spec/ a statement comes from; where it
rests on a decision of the spec (Dn of spec/92_eei_decisions.md) or of this model (notes/assumptions/), it says so. -/

open Sys2Proof Sys2Proof.Machine

namespace Sys2Proof.Statements

/-- A running session: no refusal, configuration `c`. -/
abbrev Ready (c : Config) (s : State) : Prop := s.mark = none ∧ s.cfg = some c

/-- The gate, transcribed from R121: what each chip kind computes, and the guard of R123. -/
def gateValue : ChipKind → Bool → Bool → Bool → Bool
  | .absent, atna, atn, _ => atna && atn
  | .variantA, _, _, false => false
  | .variantA, atna, atn, true => atna != atn
  | .variantB, _, _, false => false
  | .variantB, atna, atn, true => atna && atn

/-- The direction correction of R131: an output bit set, or its pin an input. -/
def wanted (p : PortState) (bit : Nat) : Bool := p.out.getLsbD bit || !p.dir.getLsbD bit

/-- The chip calls of the trace (R55). -/
def isChipCall : HwCall → Bool
  | .setPortInput _ _ | .signalEdgeInput _ | .setLevelFlag _ => true
  | .readPinLevels _ | .writePinsSet _ | .writePinsClear _ | .writePinFunction _ _ => false

/-- The calls of the trace that write a GPIO register (R53). -/
def isPinWrite : HwCall → Bool
  | .writePinsSet _ | .writePinsClear _ | .writePinFunction _ _ => true
  | .readPinLevels _ | .setPortInput _ _ | .signalEdgeInput _ | .setLevelFlag _ => false

/-- The calls of the edge-triggered input of variant A (R55). -/
def isEdgeCall : HwCall → Bool
  | .signalEdgeInput _ => true
  | .setPortInput _ _ | .setLevelFlag _ | .readPinLevels _ | .writePinsSet _ | .writePinsClear _
  | .writePinFunction _ _ => false

/-- The calls that feed one input bit of the chip: one on a change, none otherwise (R133). -/
def feedCalls (bit : Nat) (before after : Bool) : List HwCall :=
  if after = before then [] else [.setPortInput bit after]

/-- The pins whose latch a Refresh writes (R150). -/
def refreshedPins (c : Config) : List Nat :=
  [c.pinMap.led, c.pinMap.sound] ++
    (if c.splitLines then [c.pinMap.outData, c.pinMap.outClock] else [c.pinMap.data, c.pinMap.clock])

/-- The operations of one cycle before its Refresh, in the order of R191, less ROTARY (which writes no state) and
PropagateInputs (which has no op code). -/
def cycleOps (c : Config) (levels : Mask) (snap : Option PortState) (s : State) : List Instr :=
  let raw (pin : Nat) : Bool := (levels % 2 ^ c.pinWidth).testBit pin
  let samples : List Instr := c.buttons.mapIdx fun i b => .sample i (raw b.pin)
  let senses : List Instr :=
    [.sense 1 (raw c.pinMap.data) snap, .sense 2 (raw c.pinMap.clock) snap, .sense 3 (raw c.pinMap.srq) snap,
      .sense 4 (raw c.pinMap.reset) snap, .sense 0 (raw c.pinMap.atn) snap]
  let decodes : List Instr := match snap with
    | none => []
    | some p => if s.lastApplied = some p then [] else [.portOut p.out p.dir]
  samples.append (senses.append decodes)

/-- The calls RESET makes (R221, R222): the released Refresh with its two masks, the pins that become inputs, the pins
that become outputs, and the chip's three input bits. -/
def resetTrace (c : Config) (set clear : Mask) : List HwCall :=
  let refresh : List HwCall :=
    if c.splitLines then [.writePinsSet set, .writePinsClear clear]
    else [.writePinsSet set, .writePinsClear clear, .writePinFunction c.pinMap.data .input,
      .writePinFunction c.pinMap.clock .input]
  let inputs : List Nat :=
    if c.splitLines then
      [c.pinMap.atn, c.pinMap.data, c.pinMap.clock, c.pinMap.srq, c.pinMap.reset].append (c.buttons.map Button.pin)
    else [c.pinMap.atn, c.pinMap.srq, c.pinMap.reset].append (c.buttons.map Button.pin)
  let outputs : List Nat :=
    if c.splitLines then [c.pinMap.outData, c.pinMap.outClock, c.pinMap.led, c.pinMap.sound]
    else [c.pinMap.led, c.pinMap.sound]
  let chip : List HwCall :=
    if c.chipKind = .absent then []
    else [.setPortInput c.portMap.atnIn false, .setPortInput c.portMap.dataIn false,
      .setPortInput c.portMap.clockIn false]
  refresh.append ((inputs.map fun p => .writePinFunction p .input).append
    ((outputs.map fun p => .writePinFunction p .output).append chip))

end Sys2Proof.Statements

open Sys2Proof.Statements

/-! ## RESET -/

/-- RESET with an admitted configuration completes from any unmarked state and leaves the values of R38 (the spec's
own choice, D26): all of `S` and `C`, and nothing of the loop's calls. -/
def Obligations.ResetLeavesInitialValues : Prop :=
  ∀ (c : Config) (s : State), s.mark = none → configAdmitted c = true →
    ∃ t, exec (.reset c) s = .next t ∧
      t = { s with
        cfg := some c
        lines := ⟨⟨true, false, false⟩, ⟨true, false, false⟩, ⟨true, false, false⟩, ⟨true, false, false⟩,
          ⟨true, false, false⟩⟩
        pullDataLow := false
        lastApplied := none
        fed := ⟨false, false, false⟩
        resetAsserted := false
        pins := List.replicate c.buttons.length ⟨!c.pressedLevel, !c.pressedLevel, 0, 0⟩
        gpio := t.gpio
        out := t.out } ∧
      t.out.events = [] ∧ t.out.result = .nothing

/-- The calls of HardwareInit and ChipInit, in order (R221, R222; the spec's own choice, D27). -/
def Obligations.ResetInitialisesPinsThenChip : Prop :=
  ∀ (c : Config) (s : State), s.mark = none → configAdmitted c = true →
    ∃ t set clear, exec (.reset c) s = .next t ∧
      t.out.hw = resetTrace c set clear ∧
      (∀ i, set.testBit i =
        (c.splitLines && c.invertOutputs && (i == c.pinMap.outData || i == c.pinMap.outClock))) ∧
      (∀ i, clear.testBit i =
        (i == c.pinMap.led || i == c.pinMap.sound ||
          (if c.splitLines then !c.invertOutputs && (i == c.pinMap.outData || i == c.pinMap.outClock)
            else i == c.pinMap.data || i == c.pinMap.clock)))

/-- The pins after RESET: every pin of the block has its function and every output its released level, and every other
pin keeps its latch and its function (R53, R221; D27). -/
def Obligations.ResetLeavesPinsReleased : Prop :=
  ∀ (c : Config) (s t : State), exec (.reset c) s = .next t →
    (∀ p ∈ [c.pinMap.led, c.pinMap.sound], t.gpio.drives p = some false) ∧
    (c.splitLines = true →
      ∀ p ∈ [c.pinMap.outData, c.pinMap.outClock], t.gpio.drives p = some c.invertOutputs) ∧
    (∀ p ∈ [c.pinMap.atn, c.pinMap.data, c.pinMap.clock, c.pinMap.srq, c.pinMap.reset] ++ c.buttons.map Button.pin,
      t.gpio.drives p = none) ∧
    (∀ p, p ∉ allPins c →
      t.gpio.latch.testBit p = s.gpio.latch.testBit p ∧ t.gpio.outputs.testBit p = s.gpio.outputs.testBit p)

/-- R202: RESET refuses a configuration that fails a check of R39, and neither the state nor a pin is written; only the
sticky mark of R201 is set, in the refused state that the refusal carries (D29, notes/assumptions/8.md). -/
def Obligations.ResetRefusesIllFormedConfig : Prop :=
  ∀ (c : Config) (s : State), s.mark = none → configAdmitted c = false →
    exec (.reset c) s = .refused (.illFormedConfig { s with mark := some .illFormedConfig, out := ⟨[], [], .nothing⟩ })

/-- The checks of R39 (D17, D22, D29), as propositions; the dedicated output pins are checked against `PIN_WIDTH` in
either mode (notes/assumptions/7.md). -/
def Obligations.AdmittedConfigMeetsEveryCheck : Prop :=
  ∀ c : Config, configAdmitted c = true ↔
    (∀ b ∈ c.buttons, 1 ≤ b.repeatThreshold.toNat) ∧
    (∀ p ∈ [c.pinMap.atn, c.pinMap.data, c.pinMap.clock, c.pinMap.srq, c.pinMap.reset, c.pinMap.outData,
      c.pinMap.outClock, c.pinMap.led, c.pinMap.sound] ++ c.buttons.map Button.pin, p < c.pinWidth) ∧
    ([c.pinMap.atn, c.pinMap.data, c.pinMap.clock, c.pinMap.srq, c.pinMap.reset, c.pinMap.led, c.pinMap.sound] ++
      c.buttons.map Button.pin).Nodup ∧
    (c.splitLines = true →
      c.pinMap.outData ≠ c.pinMap.outClock ∧
      ∀ p ∈ [c.pinMap.atn, c.pinMap.data, c.pinMap.clock, c.pinMap.srq, c.pinMap.reset, c.pinMap.led,
        c.pinMap.sound] ++ c.buttons.map Button.pin, p ≠ c.pinMap.outData ∧ p ≠ c.pinMap.outClock) ∧
    (∀ b ∈ [c.portMap.dataIn, c.portMap.dataOut, c.portMap.clockIn, c.portMap.clockOut, c.portMap.atnaOut,
      c.portMap.atnIn], b < 8) ∧
    [c.portMap.dataIn, c.portMap.dataOut, c.portMap.clockIn, c.portMap.clockOut, c.portMap.atnaOut,
      c.portMap.atnIn].Nodup ∧
    (∀ r ∈ c.rotaryPairs,
      r.primary ≠ r.secondary ∧ r.primary < c.buttons.length ∧ r.secondary < c.buttons.length)

/-! ## SENSE -/

/-- R109, and R102 for CLOCK: while the drive pulls DATA or CLOCK, SENSE stores "high" whatever the raw level, the line
stays asserted, and nothing else changes; in split-pin and shared-pin mode alike (the spec's own choice, D31). -/
def Obligations.SenseForcedLineIgnoresRaw : Prop :=
  ∀ (c : Config) (s : State) (raw : Bool) (snap : Option PortState), Ready c s →
    ((s.lines.data.pulledLowByDrive = true ∨ s.lines.data.pulledLowByChipOutput = true) →
      exec (.sense 1 raw snap) s = .next { s with
        lines := { s.lines with data := { s.lines.data with sensedHigh := true } }
        out := ⟨[], [], .sensed true true⟩ }) ∧
    (s.lines.clock.pulledLowByChipOutput = true →
      exec (.sense 2 raw snap) s = .next { s with
        lines := { s.lines with clock := { s.lines.clock with sensedHigh := true } }
        out := ⟨[], [], .sensed true true⟩ })

/-- SENSE of a line that is not forced stores `raw ⊕ invertInputs` and nothing else (R101, R103, R107; D2, D3, D11). -/
def Obligations.SenseFreeLineStoresNormalisedLevel : Prop :=
  ∀ (c : Config) (s : State) (raw : Bool) (snap : Option PortState), Ready c s →
    (s.lines.data.pulledLowByDrive = false → s.lines.data.pulledLowByChipOutput = false →
      exec (.sense 1 raw snap) s = .next { s with
        lines := { s.lines with data := { s.lines.data with sensedHigh := raw != c.invertInputs } }
        out := ⟨[], [], .sensed (raw != c.invertInputs) (raw == c.invertInputs)⟩ }) ∧
    (s.lines.clock.pulledLowByChipOutput = false →
      exec (.sense 2 raw snap) s = .next { s with
        lines := { s.lines with clock := { s.lines.clock with sensedHigh := raw != c.invertInputs } }
        out := ⟨[], [], .sensed (raw != c.invertInputs) (raw == c.invertInputs)⟩ }) ∧
    exec (.sense 3 raw snap) s = .next { s with
      lines := { s.lines with srq := { s.lines.srq with sensedHigh := raw != c.invertInputs } }
      out := ⟨[], [], .sensed (raw != c.invertInputs) (raw == c.invertInputs)⟩ }

/-- SENSE of RESET stores the sample, and the reported condition is the asserted sample unless RESET is ignored
(R106; a level, D12). -/
def Obligations.SenseResetReportsCondition : Prop :=
  ∀ (c : Config) (s : State) (raw : Bool) (snap : Option PortState), Ready c s →
    exec (.sense 4 raw snap) s = .next { s with
      lines := { s.lines with reset := { s.lines.reset with sensedHigh := raw != c.invertInputs } }
      resetAsserted := (raw == c.invertInputs) && !c.ignoreReset
      out := ⟨[], [], .sensed (raw != c.invertInputs) (raw == c.invertInputs)⟩ }

/-- R105: every SENSE of ATN writes the sample from `senseLevel(raw)`, whatever the pull flags (the polarity of
`senseLevel` is the spec's own choice, D2). -/
def Obligations.SenseAtnAlwaysSampled : Prop :=
  ∀ (c : Config) (s : State) (raw : Bool) (snap : Option PortState), Ready c s →
    snap.isSome = decide (c.chipKind ≠ .absent) →
    ∃ t, exec (.sense 0 raw snap) s = .next t ∧ t.lines.atn.sensedHigh = (raw != c.invertInputs)

/-- R104: a SENSE of ATN that changes the asserted value makes exactly one call of OnAtnTransition, with the new
asserted value, on the state that already holds the new sample; one that does not change it makes none and writes
nothing but the sample. -/
def Obligations.SenseAtnNotifiesOnTransition : Prop :=
  ∀ (c : Config) (s : State) (raw : Bool) (snap : Option PortState), Ready c s →
    snap.isSome = decide (c.chipKind ≠ .absent) →
    let level := raw != c.invertInputs
    let sampled : State := { s with lines := { s.lines with atn := { s.lines.atn with sensedHigh := level } } }
    (s.lines.atn.sensedHigh = level →
      exec (.sense 0 raw snap) s = .next { sampled with out := ⟨[], [], .sensed level (!level)⟩ }) ∧
    (s.lines.atn.sensedHigh ≠ level →
      ∃ u, exec (.atnEdge (!level) snap) sampled = .next u ∧
        exec (.sense 0 raw snap) s = .next { u with out := { u.out with result := .sensed level (!level) } })

/-- Calling SENSE twice with the same operands leaves the state that one call leaves (R103, 90_conflicts.md C1). -/
def Obligations.SenseTwiceIsSenseOnce : Prop :=
  ∀ (sel : Selector) (raw : Bool) (snap : Option PortState) (s t : State),
    exec (.sense sel raw snap) s = .next t →
      ∃ u, exec (.sense sel raw snap) t = .next u ∧ u = { t with out := u.out } ∧ u.out.hw = [] ∧
        u.out.result = t.out.result

/-- A line id above 4 and a button index not below `N_BUTTONS` are refused by name (R103, R171, R201; D29,
90_conflicts.md C12). -/
def Obligations.InvalidLineAndPinAreRefused : Prop :=
  ∀ (c : Config) (s : State) (raw : Bool), Ready c s →
    (∀ (sel : Selector) (snap : Option PortState), 4 < sel.toNat →
      exec (.sense sel raw snap) s =
        .refused (.invalidLineId { s with mark := some .invalidLineId, out := ⟨[], [], .nothing⟩ })) ∧
    (∀ i : Nat, c.buttons.length ≤ i →
      exec (.sample i raw) s =
        .refused (.invalidPinId { s with mark := some .invalidPinId, out := ⟨[], [], .nothing⟩ }))

/-- CYCLE, ATNEDGE and SENSE of ATN are refused when the snapshot's presence disagrees with the chip's (R203; D7,
D24). -/
def Obligations.SnapshotMismatchIsRefused : Prop :=
  ∀ (c : Config) (s : State) (snap : Option PortState), Ready c s →
    snap.isSome ≠ decide (c.chipKind ≠ .absent) →
    let refused : StepOutcome :=
      .refused (.snapshotMismatch { s with mark := some .snapshotMismatch, out := ⟨[], [], .nothing⟩ })
    (∀ levels led sound, exec (.cycle levels snap led sound) s = refused) ∧
    (∀ a, exec (.atnEdge a snap) s = refused) ∧
    (∀ raw, exec (.sense 0 raw snap) s = refused)

/-! ## GATE, ATNEDGE, PORTOUT -/

/-- R121: GATE returns the gate function of its operands and the chip kind, writes no state and refuses nothing; and
what ATNEDGE and PORTOUT store in `pullDataLow` is that function's result (no chip: D7; the snapshot's ATNA bit:
D36). -/
def Obligations.GateIsPureFunctionOfChipKind : Prop :=
  ∀ (c : Config) (s : State), Ready c s →
    (∀ atna atn dirA, exec (.gate atna atn dirA) s =
      .next { s with out := ⟨[], [], .gate (gateValue c.chipKind atna atn dirA)⟩ }) ∧
    (∀ a p t, exec (.atnEdge a (some p)) s = .next t →
      t.pullDataLow =
        gateValue c.chipKind (p.out.getLsbD c.portMap.atnaOut) a (p.dir.getLsbD c.portMap.atnaOut)) ∧
    (∀ a t, exec (.atnEdge a none) s = .next t → t.pullDataLow = gateValue c.chipKind false a true) ∧
    (∀ status dir t, exec (.portOut status dir) s = .next t →
      t.pullDataLow = gateValue c.chipKind (status.getLsbD c.portMap.atnaOut) (!s.lines.atn.sensedHigh)
        (dir.getLsbD c.portMap.atnaOut))

/-- R122: the truth tables of the two variants, with the ATNA pin an output. -/
def Obligations.GateTruthTables : Prop :=
  ∀ (c : Config) (s : State), Ready c s → ∀ atna atn : Bool,
    (c.chipKind = .variantA →
      exec (.gate atna atn true) s = .next { s with out := ⟨[], [], .gate (atna ^^ atn)⟩ }) ∧
    (c.chipKind = .variantB →
      exec (.gate atna atn true) s = .next { s with out := ⟨[], [], .gate (atna && atn)⟩ })

/-- R123: with the ATNA pin an input the gate's pull is false, on both variants and for GATE and both callers (that a
direction bit of 0 is an input is the spec's own choice, D5). -/
def Obligations.GuardForcesPullFalse : Prop :=
  ∀ (c : Config) (s : State), Ready c s → c.chipKind ≠ .absent →
    (∀ atna atn : Bool, exec (.gate atna atn false) s = .next { s with out := ⟨[], [], .gate false⟩ }) ∧
    (∀ (a : Bool) (p : PortState), p.dir.getLsbD c.portMap.atnaOut = false →
      ∃ t, exec (.atnEdge a (some p)) s = .next t ∧ t.pullDataLow = false) ∧
    (∀ status dir : Byte, dir.getLsbD c.portMap.atnaOut = false →
      ∃ t, exec (.portOut status dir) s = .next t ∧ t.pullDataLow = false)

/-- ATNEDGE with a chip: the chip is told of ATN with the variant's own primitive, the gate is recomputed from the
snapshot, DATA's total pull is restored, and nothing else changes (R125, R126, R132; D9, D36). -/
def Obligations.AtnEdgeTellsChipAndRecomputesGate : Prop :=
  ∀ (c : Config) (s : State) (a : Bool) (p : PortState), Ready c s → c.chipKind ≠ .absent →
    let g := gateValue c.chipKind (p.out.getLsbD c.portMap.atnaOut) a (p.dir.getLsbD c.portMap.atnaOut)
    exec (.atnEdge a (some p)) s = .next { s with
      lines := { s.lines with
        data := { s.lines.data with pulledLowByDrive := g || s.lines.data.pulledLowByChipOutput } }
      pullDataLow := g
      fed := { s.fed with atn := a }
      out := ⟨[], [.setPortInput c.portMap.atnIn a,
        if c.chipKind = .variantA then .signalEdgeInput a else .setLevelFlag a], .nothing⟩ }

/-- ATNEDGE with no chip: no chip call, and the gate's pull is off (R124, R125; D7). -/
def Obligations.AtnEdgeWithoutChipReleasesGate : Prop :=
  ∀ (c : Config) (s : State) (a : Bool), Ready c s → c.chipKind = .absent →
    exec (.atnEdge a none) s = .next { s with
      lines := { s.lines with
        data := { s.lines.data with pulledLowByDrive := s.lines.data.pulledLowByChipOutput } }
      pullDataLow := false
      out := ⟨[], [], .nothing⟩ }

/-- R130: PORTOUT decodes the three output bits, stores the gate's pull, the two chip pulls with the direction
correction of R131, DATA's total pull and the decoded pair, makes no call, and changes nothing else; with no chip it
is refused (bit polarities and both variants: the spec's own choices D4, D5, D33). -/
def Obligations.PortOutDecodesPulls : Prop :=
  ∀ (c : Config) (s : State) (status dir : Byte), Ready c s →
    let g := gateValue c.chipKind (status.getLsbD c.portMap.atnaOut) (!s.lines.atn.sensedHigh)
      (dir.getLsbD c.portMap.atnaOut)
    let wantsData := wanted ⟨dir, status⟩ c.portMap.dataOut
    let wantsClock := wanted ⟨dir, status⟩ c.portMap.clockOut
    (c.chipKind ≠ .absent →
      exec (.portOut status dir) s = .next { s with
        lines := { s.lines with
          data := ⟨s.lines.data.sensedHigh, g || wantsData, wantsData⟩
          clock := { s.lines.clock with pulledLowByChipOutput := wantsClock } }
        pullDataLow := g
        lastApplied := some ⟨dir, status⟩
        out := ⟨[], [], .nothing⟩ }) ∧
    (c.chipKind = .absent →
      exec (.portOut status dir) s =
        .refused (.noChip { s with mark := some .noChip, out := ⟨[], [], .nothing⟩ }))

/-- R132 (an inference of the spec from R125 and R130): DATA's total pull is the gate's pull or the chip's after every
operation that starts so. -/
def Obligations.DataPullIsGateOrChip : Prop :=
  ∀ (i : Instr) (s t : State), s.DataPullTotal → exec i s = .next t →
    t.DataPullTotal ∧ (t.lines.data.pulledLowByChipOutput = true → t.lines.data.pulledLowByDrive = true)

/-! ## REFRESH -/

/-- REFRESH in split-pin mode: each of LED, SOUND, OUT_DATA and OUT_CLOCK goes in the set or the clear mask by its
level, the masks are written set first, no function is written, and no other pin and no state of the block changes
(R150, R151, R152, R155; D14, D15, D16). -/
def Obligations.RefreshSplitWritesLevels : Prop :=
  ∀ (c : Config) (s : State) (d k led sound : Bool), Ready c s → c.splitLines = true →
    ∃ t set clear, exec (.refresh d k led sound) s = .next t ∧
      t = { s with
        gpio := t.gpio
        out := ⟨[], [.writePinsSet set, .writePinsClear clear], .masks set clear⟩ } ∧
      (∀ i, set.testBit i =
        (led && i == c.pinMap.led || sound && i == c.pinMap.sound ||
          (d != c.invertOutputs) && i == c.pinMap.outData || (k != c.invertOutputs) && i == c.pinMap.outClock)) ∧
      (∀ i, clear.testBit i =
        (!led && i == c.pinMap.led || !sound && i == c.pinMap.sound ||
          (d == c.invertOutputs) && i == c.pinMap.outData || (k == c.invertOutputs) && i == c.pinMap.outClock)) ∧
      (∀ i, t.gpio.latch.testBit i = ((s.gpio.latch.testBit i || set.testBit i) && !clear.testBit i)) ∧
      t.gpio.outputs = s.gpio.outputs

/-- REFRESH in shared-pin mode: the latches of DATA and CLOCK are cleared, then each is made an output while pulled and
an input while released, whatever `invertOutputs` (R150, R151, R153, R155; D13, D15, D16). -/
def Obligations.RefreshSharedSwitchesFunctions : Prop :=
  ∀ (c : Config) (s : State) (d k led sound : Bool), Ready c s → c.splitLines = false →
    ∃ t set clear, exec (.refresh d k led sound) s = .next t ∧
      t = { s with
        gpio := t.gpio
        out := ⟨[], [.writePinsSet set, .writePinsClear clear,
          .writePinFunction c.pinMap.data (if d then .output else .input),
          .writePinFunction c.pinMap.clock (if k then .output else .input)], .masks set clear⟩ } ∧
      (∀ i, set.testBit i = (led && i == c.pinMap.led || sound && i == c.pinMap.sound)) ∧
      (∀ i, clear.testBit i =
        (!led && i == c.pinMap.led || !sound && i == c.pinMap.sound || i == c.pinMap.data || i == c.pinMap.clock)) ∧
      (∀ i, t.gpio.latch.testBit i = ((s.gpio.latch.testBit i || set.testBit i) && !clear.testBit i)) ∧
      (∀ i, t.gpio.outputs.testBit i =
        if i = c.pinMap.clock then k else if i = c.pinMap.data then d else s.gpio.outputs.testBit i)

/-- With an admitted configuration each pin a Refresh names is in exactly one of the two masks, and no other pin is in
either (R154). -/
def Obligations.RefreshMasksAreDisjoint : Prop :=
  ∀ (c : Config) (s : State) (d k led sound : Bool), Ready c s → configAdmitted c = true →
    ∃ t set clear, exec (.refresh d k led sound) s = .next t ∧ t.out.result = .masks set clear ∧
      set &&& clear = 0 ∧ ∀ i, (set.testBit i || clear.testBit i) = decide (i ∈ refreshedPins c)

/-- What a Refresh puts on the wires, from a state that meets the invariant (the pins RESET made outputs still are:
R221): the indicators are driven at their levels (R151); in split-pin mode the dedicated pins are driven at theirs (R152,
R157) and the DATA and CLOCK pins that sensing reads are not driven; in shared-pin mode DATA and CLOCK are driven low
while pulled and not driven at all while released (R153); and no pin of ATN, SRQ, RESET or a button is driven (D13 to
D15). -/
def Obligations.RefreshDrivesOpenCollector : Prop :=
  ∀ (c : Config) (s t : State) (d k led sound : Bool), s.Inv → Ready c s →
    exec (.refresh d k led sound) s = .next t →
    t.gpio.drives c.pinMap.led = some led ∧ t.gpio.drives c.pinMap.sound = some sound ∧
    (c.splitLines = true →
      t.gpio.drives c.pinMap.outData = some (d != c.invertOutputs) ∧
      t.gpio.drives c.pinMap.outClock = some (k != c.invertOutputs) ∧
      t.gpio.drives c.pinMap.data = none ∧ t.gpio.drives c.pinMap.clock = none) ∧
    (c.splitLines = false →
      t.gpio.drives c.pinMap.data = (if d then some false else none) ∧
      t.gpio.drives c.pinMap.clock = (if k then some false else none)) ∧
    (∀ p ∈ [c.pinMap.atn, c.pinMap.srq, c.pinMap.reset] ++ c.buttons.map Button.pin, t.gpio.drives p = none)

/-- The same operands always give the same writes, and writing them again changes nothing (R54, R150). -/
def Obligations.RefreshTwiceIsRefreshOnce : Prop :=
  ∀ (d k led sound : Bool) (s t : State), exec (.refresh d k led sound) s = .next t →
    exec (.refresh d k led sound) t = .next t

/-! ## SAMPLE and ROTARY -/

/-- A sample that changes the level starts a run at streak 0 with the repeat counter cleared, and fires nothing (R172;
D21). -/
def Obligations.SampleChangeStartsRun : Prop :=
  ∀ (c : Config) (s : State) (i : Nat) (b : Button) (p : InputPin) (raw : Bool), Ready c s →
    c.buttons[i]? = some b → s.pins[i]? = some p → raw ≠ p.previousRaw →
    exec (.sample i raw) s = .next { s with pins := s.pins.set i ⟨raw, raw, 0, 0⟩, out := ⟨[], [], .nothing⟩ }

/-- A sample of the run's level below the threshold counts up and fires nothing (R172, R173; D20). -/
def Obligations.SampleBelowThresholdCounts : Prop :=
  ∀ (c : Config) (s : State) (i : Nat) (b : Button) (p : InputPin), Ready c s →
    c.buttons[i]? = some b → s.pins[i]? = some p → p.validStreak.toNat + 1 < b.repeatThreshold.toNat →
    exec (.sample i p.previousRaw) s = .next { s with
      pins := s.pins.set i ⟨p.previousRaw, p.previousRaw, p.validStreak + 1, p.repeatCounter⟩
      out := ⟨[], [], .nothing⟩ }

/-- The sample that makes the streak reach the threshold fires Press, which loads the repeat counter, or Release, by
the level of the run (R173, R174; D20, D21). -/
def Obligations.SampleReachingThresholdFires : Prop :=
  ∀ (c : Config) (s : State) (i : Nat) (b : Button) (p : InputPin), Ready c s →
    c.buttons[i]? = some b → s.pins[i]? = some p → p.validStreak.toNat + 1 = b.repeatThreshold.toNat →
    (p.previousRaw = c.pressedLevel →
      exec (.sample i p.previousRaw) s = .next { s with
        pins := s.pins.set i ⟨p.previousRaw, p.previousRaw, b.repeatThreshold, b.repeatThreshold⟩
        out := ⟨[.button i .press], [], .nothing⟩ }) ∧
    (p.previousRaw ≠ c.pressedLevel →
      exec (.sample i p.previousRaw) s = .next { s with
        pins := s.pins.set i ⟨p.previousRaw, p.previousRaw, b.repeatThreshold, p.repeatCounter⟩
        out := ⟨[.button i .release], [], .nothing⟩ })

/-- Past the threshold the streak counts up to `2^32 - 1` and stays there; a pressed run counts the repeat counter
down and fires Repeat with a reload at 0; a released run does neither (R174, R175; D20, D21). -/
def Obligations.SamplePastThresholdRepeats : Prop :=
  ∀ (c : Config) (s : State) (i : Nat) (b : Button) (p : InputPin), Ready c s →
    c.buttons[i]? = some b → s.pins[i]? = some p → b.repeatThreshold.toNat ≤ p.validStreak.toNat →
    let streak : U32 := BitVec.ofNat 32 (min (p.validStreak.toNat + 1) (2 ^ 32 - 1))
    (p.previousRaw = c.pressedLevel → b.repeatThreshold.toNat < streak.toNat → p.repeatCounter = 1 →
      exec (.sample i p.previousRaw) s = .next { s with
        pins := s.pins.set i ⟨p.previousRaw, p.previousRaw, streak, b.repeatThreshold⟩
        out := ⟨[.button i .repeated], [], .nothing⟩ }) ∧
    (p.previousRaw = c.pressedLevel → b.repeatThreshold.toNat < streak.toNat → 1 < p.repeatCounter.toNat →
      exec (.sample i p.previousRaw) s = .next { s with
        pins := s.pins.set i ⟨p.previousRaw, p.previousRaw, streak, BitVec.ofNat 32 (p.repeatCounter.toNat - 1)⟩
        out := ⟨[], [], .nothing⟩ }) ∧
    (p.previousRaw ≠ c.pressedLevel ∨ b.repeatThreshold.toNat = streak.toNat →
      exec (.sample i p.previousRaw) s = .next { s with
        pins := s.pins.set i ⟨p.previousRaw, p.previousRaw, streak, p.repeatCounter⟩
        out := ⟨[], [], .nothing⟩ })

/-- Debounce, over a whole run of samples: after the sample that changes the level, the `n`-th further sample at that
level leaves streak `n`, and the one event comes at `n = T` and at no earlier sample (R173, R176; D20, C5). -/
def Obligations.DebounceFiresExactlyAtThreshold : Prop :=
  ∀ (c : Config) (s : State) (i n : Nat) (b : Button) (p : InputPin) (raw : Bool), Ready c s →
    c.buttons[i]? = some b → s.pins[i]? = some p → raw ≠ p.previousRaw → 1 ≤ b.repeatThreshold.toNat →
    n ≤ b.repeatThreshold.toNat →
    ∃ t, execAll (List.replicate (n + 1) (.sample i raw)) s = .next t ∧
      t.pins = s.pins.set i ⟨raw, raw, BitVec.ofNat 32 n,
        if n = b.repeatThreshold.toNat ∧ raw = c.pressedLevel then b.repeatThreshold else 0⟩ ∧
      t.out.events = if n = b.repeatThreshold.toNat then
        [.button i (if raw = c.pressedLevel then .press else .release)] else []

/-- Auto-repeat cadence, over a whole run: from the Press on, the `n`-th further sample of the held button fires a
Repeat exactly when `T` divides `n`, and `repeatCounter` is then `T` again (R174; D21). A threshold of `2^32 - 1` never
repeats (R175), so it is below that. -/
def Obligations.AutoRepeatEveryThresholdSamples : Prop :=
  ∀ (c : Config) (s : State) (i n : Nat) (b : Button) (p : InputPin), Ready c s →
    c.buttons[i]? = some b → s.pins[i]? = some p → p.previousRaw = c.pressedLevel →
    p.validStreak = b.repeatThreshold → p.repeatCounter = b.repeatThreshold →
    1 ≤ b.repeatThreshold.toNat → b.repeatThreshold.toNat < 2 ^ 32 - 1 →
    ∃ t, execAll (List.replicate (n + 1) (.sample i c.pressedLevel)) s = .next t ∧
      t.pins = s.pins.set i ⟨c.pressedLevel, c.pressedLevel,
        BitVec.ofNat 32 (min (b.repeatThreshold.toNat + n + 1) (2 ^ 32 - 1)),
        BitVec.ofNat 32 (b.repeatThreshold.toNat - (n + 1) % b.repeatThreshold.toNat)⟩ ∧
      t.out.events = if (n + 1) % b.repeatThreshold.toNat = 0 then [.button i .repeated] else []

/-- R177: with the primary pressed, ROTARY emits `Second` when the secondary's raw sample is at the pressed level and
`First` otherwise (the direction's naming is the spec's own choice, D23); without it nothing; it writes no state; and a
pair index out of range is refused. -/
def Obligations.RotaryReadsSecondaryRaw : Prop :=
  ∀ (c : Config) (s : State) (j : Nat) (pressed : Bool), Ready c s →
    (∀ (r : RotaryPair) (q : InputPin), c.rotaryPairs[j]? = some r → s.pins[r.secondary]? = some q →
      exec (.rotary j pressed) s = .next { s with
        out := ⟨if pressed then [.rotary j (if q.currentRaw = c.pressedLevel then .second else .first)] else [],
          [], .nothing⟩ }) ∧
    (c.rotaryPairs.length ≤ j →
      exec (.rotary j pressed) s =
        .refused (.invalidPairId { s with mark := some .invalidPairId, out := ⟨[], [], .nothing⟩ }))

/-! ## CYCLE -/

/-- A CYCLE whose snapshot is present exactly when a chip is attached runs to completion (R190, R195; D24): it reads
the pins once, first (the operand taken as `PIN_WIDTH` bits: notes/assumptions/6.md), returns the reported RESET
condition, and leaves `C`, the mark and the loop's calls. -/
def Obligations.CycleRunsToCompletion : Prop :=
  ∀ (c : Config) (s : State) (levels : Mask) (snap : Option PortState) (led sound : Bool), Ready c s →
    snap.isSome = decide (c.chipKind ≠ .absent) →
    ∃ t, exec (.cycle levels snap led sound) s = .next t ∧
      t.cfg = s.cfg ∧ t.mark = s.mark ∧ t.calls = s.calls ∧ t.out.result = .cycle t.resetAsserted ∧
      ∃ rest, t.out.hw = .readPinLevels (levels % 2 ^ c.pinWidth) :: rest ∧
        rest.all (fun h => isChipCall h || isPinWrite h) = true

/-- R191: a CYCLE is its operations in their order. Calling SAMPLE, SENSE, PORTOUT and REFRESH one after another, with
the operands R191 gives them, leaves the same lines, gate, decoded pair, RESET condition, input pins and GPIO. -/
def Obligations.CycleIsItsOperationsInOrder : Prop :=
  ∀ (c : Config) (s : State) (levels : Mask) (snap : Option PortState) (led sound : Bool), Ready c s →
    snap.isSome = decide (c.chipKind ≠ .absent) →
    ∃ t v u, exec (.cycle levels snap led sound) s = .next t ∧
      execAll (cycleOps c levels snap s) s = .next v ∧
      exec (.refresh v.lines.data.pulledLowByDrive v.lines.clock.pulledLowByChipOutput led sound) v = .next u ∧
      u.lines = t.lines ∧ u.pullDataLow = t.pullDataLow ∧ u.lastApplied = t.lastApplied ∧
      u.resetAsserted = t.resetAsserted ∧ u.pins = t.pins ∧ u.gpio = t.gpio

/-- The sample every line holds after a CYCLE: DATA and CLOCK are forced by the pull flags as they stood when the cycle
began, and every other sample is the normalised level (R102, R107, R108; D31, D35). -/
def Obligations.CycleSamplesEveryLine : Prop :=
  ∀ (c : Config) (s t : State) (levels : Mask) (snap : Option PortState) (led sound : Bool), Ready c s →
    exec (.cycle levels snap led sound) s = .next t →
    let level (pin : Nat) : Bool := (levels % 2 ^ c.pinWidth).testBit pin != c.invertInputs
    t.lines.atn.sensedHigh = level c.pinMap.atn ∧
    t.lines.srq.sensedHigh = level c.pinMap.srq ∧
    t.lines.reset.sensedHigh = level c.pinMap.reset ∧
    t.resetAsserted = (!level c.pinMap.reset && !c.ignoreReset) ∧
    t.lines.data.sensedHigh =
      (s.lines.data.pulledLowByDrive || s.lines.data.pulledLowByChipOutput || level c.pinMap.data) ∧
    t.lines.clock.sensedHigh = (s.lines.clock.pulledLowByChipOutput || level c.pinMap.clock)

/-- No stale bus state (R60, R226): from a state whose pulls are those of the last decoded port, a CYCLE leaves the
pulls of this cycle's snapshot and this cycle's ATN. -/
def Obligations.CycleLeavesNoStalePull : Prop :=
  ∀ (c : Config) (s t : State) (levels : Mask) (p : PortState) (led sound : Bool), Ready c s →
    s.Coherent c → s.DataPullTotal → exec (.cycle levels (some p) led sound) s = .next t →
    t.Coherent c ∧ t.lastApplied = some p ∧
    t.pullDataLow = gateValue c.chipKind (p.out.getLsbD c.portMap.atnaOut) (!t.lines.atn.sensedHigh)
      (p.dir.getLsbD c.portMap.atnaOut) ∧
    t.lines.data.pulledLowByChipOutput = wanted p c.portMap.dataOut ∧
    t.lines.clock.pulledLowByChipOutput = wanted p c.portMap.clockOut ∧
    t.lines.data.pulledLowByDrive = (t.pullDataLow || wanted p c.portMap.dataOut)

/-- What a CYCLE with a chip feeds it: the chip calls of its trace are exactly, in order, the two calls of OnAtnTransition
when ATN has changed (R125, R126), the changes of DATA and CLOCK as they stand between sensing and the decode (R133,
first), and their changes to the effective values of the cycle's end (R133, second; R228); and `S.fed` holds what was
last fed (D9). -/
def Obligations.CycleFeedsChipThisCyclesValues : Prop :=
  ∀ (c : Config) (s t : State) (levels : Mask) (p : PortState) (led sound : Bool), Ready c s →
    exec (.cycle levels (some p) led sound) s = .next t →
    let atn := !t.lines.atn.sensedHigh
    let atnChanged := t.lines.atn.sensedHigh != s.lines.atn.sensedHigh
    let atnCalls : List HwCall :=
      if atnChanged then
        [.setPortInput c.portMap.atnIn atn, if c.chipKind = .variantA then .signalEdgeInput atn else .setLevelFlag atn]
      else []
    let gatePull := gateValue c.chipKind (p.out.getLsbD c.portMap.atnaOut) atn (p.dir.getLsbD c.portMap.atnaOut)
    let drivePull :=
      if atnChanged then gatePull || s.lines.data.pulledLowByChipOutput else s.lines.data.pulledLowByDrive
    let sensedData := !t.lines.data.sensedHigh || drivePull || s.lines.data.pulledLowByChipOutput
    let sensedClock := !t.lines.clock.sensedHigh || s.lines.clock.pulledLowByChipOutput
    t.out.hw.filter isChipCall =
      atnCalls ++ feedCalls c.portMap.dataIn s.fed.data sensedData ++
        feedCalls c.portMap.clockIn s.fed.clock sensedClock ++
        feedCalls c.portMap.dataIn sensedData (t.asserted .data) ++
        feedCalls c.portMap.clockIn sensedClock (t.asserted .clock) ∧
    t.fed = ⟨if atnChanged then atn else s.fed.atn, t.asserted .data, t.asserted .clock⟩

/-- R156: a CYCLE ends with one Refresh of the pulls it has computed: its trace ends with exactly the writes that
REFRESH makes for them, nothing before writes a pin, and that Refresh leaves the pins as the cycle left them. DATA's
pull is the gate's or the chip's in every cycle that starts so (R132). -/
def Obligations.CycleEndsWithRefreshOfItsPulls : Prop :=
  ∀ (c : Config) (s t : State) (levels : Mask) (snap : Option PortState) (led sound : Bool), Ready c s →
    exec (.cycle levels snap led sound) s = .next t →
    ∃ u before, exec (.refresh t.lines.data.pulledLowByDrive t.lines.clock.pulledLowByChipOutput led sound) t = .next u ∧
      t.out.hw = before ++ u.out.hw ∧ before.all (fun h => !isPinWrite h) = true ∧ u.gpio = t.gpio ∧
      (s.DataPullTotal →
        t.lines.data.pulledLowByDrive = (t.pullDataLow || t.lines.data.pulledLowByChipOutput))

/-- The bound on a cycle's calls (R195): one pin read, at most 6 chip calls, and 2 GPIO writes in split-pin mode or 4
in shared-pin mode. -/
def Obligations.CycleWorkIsBounded : Prop :=
  ∀ (c : Config) (s t : State) (levels : Mask) (snap : Option PortState) (led sound : Bool), Ready c s →
    exec (.cycle levels snap led sound) s = .next t →
    (t.out.hw.countP isChipCall) ≤ 6 ∧
    (t.out.hw.countP isPinWrite) = (if c.splitLines then 2 else 4) ∧
    t.out.hw.length = 1 + t.out.hw.countP isChipCall + t.out.hw.countP isPinWrite

/-- The events of a cycle (R179, R196; D25): button events in button order, at most one a button, then rotary events
in pair order, at most one a pair, each of a pair whose primary's Press is among them. -/
def Obligations.CycleEventsAreOrdered : Prop :=
  ∀ (c : Config) (s t : State) (levels : Mask) (snap : Option PortState) (led sound : Bool), Ready c s →
    exec (.cycle levels snap led sound) s = .next t →
    ∃ (bs : List (Nat × ButtonEvent)) (rs : List (Nat × Direction)),
      t.out.events = bs.map (fun e => .button e.1 e.2) ++ rs.map (fun e => .rotary e.1 e.2) ∧
      (bs.map Prod.fst).Pairwise (· < ·) ∧ (rs.map Prod.fst).Pairwise (· < ·) ∧
      (∀ e ∈ bs, e.1 < c.buttons.length) ∧
      (∀ e ∈ rs, ∃ r, c.rotaryPairs[e.1]? = some r ∧ (r.primary, ButtonEvent.press) ∈ bs)

/-- What the events of a cycle are (R179): a button's event is the one its SAMPLE of this cycle's level fires, and a
pair's direction event stands there exactly when its primary's Press does, with the direction of the secondary's level
in this very cycle (D23, D25). -/
def Obligations.CycleReportsEveryEvent : Prop :=
  ∀ (c : Config) (s t : State) (levels : Mask) (snap : Option PortState) (led sound : Bool), Ready c s →
    s.pins.length = c.buttons.length → exec (.cycle levels snap led sound) s = .next t →
    let raw (pin : Nat) : Bool := (levels % 2 ^ c.pinWidth).testBit pin
    (∀ i b k, c.buttons[i]? = some b →
      (Event.button i k ∈ t.out.events ↔
        ∃ u, exec (.sample i (raw b.pin)) s = .next u ∧ u.out.events = [.button i k])) ∧
    (∀ j r b d, c.rotaryPairs[j]? = some r → c.buttons[r.secondary]? = some b →
      (Event.rotary j d ∈ t.out.events ↔
        Event.button r.primary .press ∈ t.out.events ∧
          d = if raw b.pin = c.pressedLevel then .second else .first))

/-- The chip's edge input is signalled exactly once on an ATN transition of variant A and never otherwise (R231). -/
def Obligations.CycleSignalsEdgeOncePerTransition : Prop :=
  ∀ (c : Config) (s t : State) (levels : Mask) (snap : Option PortState) (led sound : Bool), Ready c s →
    exec (.cycle levels snap led sound) s = .next t →
    t.out.hw.filter isEdgeCall =
      if c.chipKind = .variantA ∧ t.lines.atn.sensedHigh ≠ s.lines.atn.sensedHigh then
        [.signalEdgeInput (!t.lines.atn.sensedHigh)] else []

/-- A CYCLE that repeats the last one's inputs and in which no line changes makes no chip call, and its Refresh writes
the pins as they are (R190). -/
def Obligations.CycleRepeatedMakesNoChipCall : Prop :=
  ∀ (s t u : State) (levels : Mask) (snap : Option PortState) (led sound : Bool),
    exec (.cycle levels snap led sound) s = .next t → exec (.cycle levels snap led sound) t = .next u →
    u.lines = t.lines → u.out.hw.all (fun h => !isChipCall h) = true ∧ u.gpio = t.gpio ∧ u.fed = t.fed ∧
      u.out.hw.filter isPinWrite = t.out.hw.filter isPinWrite

/-! ## Rules about every operation -/

/-- Only RESET writes the configuration (R30), and an operation that completes leaves no mark and the loop's calls
alone. -/
def Obligations.OnlyResetWritesConfiguration : Prop :=
  ∀ (i : Instr) (s t : State), exec i s = .next t →
    t.mark = none ∧ t.calls = s.calls ∧ ((∀ c, i ≠ .reset c) → t.cfg = s.cfg)

/-- Who writes what (R26, R40, R100, R120, R170): a changed sample means a SENSE of that line, a CYCLE or a RESET; a
changed gate, pull flag or decoded pair means ChipBridge ran; a changed input pin means InputDebouncer ran. -/
def Obligations.EachFieldHasItsWriters : Prop :=
  ∀ (i : Instr) (s t : State), exec i s = .next t → (∀ c, i ≠ .reset c) → (∀ l n d k, i ≠ .cycle l n d k) →
    (∀ l, t.sensedHigh l ≠ s.sensedHigh l →
      ∃ sel raw snap, i = .sense sel raw snap ∧ LineId.ofSelector sel = some l) ∧
    (t.resetAsserted ≠ s.resetAsserted → ∃ raw snap, i = .sense 4 raw snap) ∧
    (t.pullDataLow ≠ s.pullDataLow ∨ t.lines.data.pulledLowByDrive ≠ s.lines.data.pulledLowByDrive →
      (∃ a snap, i = .atnEdge a snap) ∨ (∃ o d, i = .portOut o d) ∨ ∃ raw snap, i = .sense 0 raw snap) ∧
    (t.lines.data.pulledLowByChipOutput ≠ s.lines.data.pulledLowByChipOutput ∨
      t.lines.clock.pulledLowByChipOutput ≠ s.lines.clock.pulledLowByChipOutput ∨ t.lastApplied ≠ s.lastApplied →
      ∃ o d, i = .portOut o d) ∧
    (t.fed ≠ s.fed → (∃ a snap, i = .atnEdge a snap) ∨ ∃ raw snap, i = .sense 0 raw snap) ∧
    (t.pins ≠ s.pins → ∃ n raw, i = .sample n raw) ∧
    (t.gpio ≠ s.gpio → ∃ d k led sound, i = .refresh d k led sound) ∧
    t.lines.clock.pulledLowByDrive = s.lines.clock.pulledLowByDrive

/-- No operation but RESET writes the latch or the function of a pin that its Refresh does not name (R150, R154); and of
the pins it names, only the function of DATA and CLOCK in shared-pin mode is ever switched (R152, R153). -/
def Obligations.OtherPinsAreUntouched : Prop :=
  ∀ (c : Config) (i : Instr) (s t : State), Ready c s → exec i s = .next t → (∀ c', i ≠ .reset c') →
    (∀ pin, pin ∉ refreshedPins c → t.gpio.latch.testBit pin = s.gpio.latch.testBit pin) ∧
    ∀ pin, (c.splitLines = false → pin ≠ c.pinMap.data ∧ pin ≠ c.pinMap.clock) →
      t.gpio.outputs.testBit pin = s.gpio.outputs.testBit pin

/-- With no chip attached, no operation of a session ever makes a chip call, and the gate never pulls (R55, R124;
D7). -/
def Obligations.NoChipMeansNoChipCall : Prop :=
  ∀ (c : Config) (i : Instr) (s t : State), s.Inv → Ready c s → c.chipKind = .absent → (∀ c', i ≠ .reset c') →
    exec i s = .next t →
    t.out.hw.all (fun h => !isChipCall h) = true ∧ t.pullDataLow = false ∧ t.lines.data.pulledLowByDrive = false ∧
      t.lines.clock.pulledLowByChipOutput = false

/-- The debouncer and the bus do not influence each other (R170): two sessions that agree on the input pins get the
same input pins and the same events from the same CYCLE, and two that agree on all but the input pins get the same
bus state, GPIO and trace. -/
def Obligations.DebouncerAndBusAreIsolated : Prop :=
  ∀ (c : Config) (s₁ s₂ t₁ t₂ : State) (levels : Mask) (snap : Option PortState) (led sound : Bool),
    Ready c s₁ → Ready c s₂ →
    exec (.cycle levels snap led sound) s₁ = .next t₁ → exec (.cycle levels snap led sound) s₂ = .next t₂ →
    (s₁.pins = s₂.pins → t₁.pins = t₂.pins ∧ t₁.out.events = t₂.out.events) ∧
    (s₁ = { s₂ with pins := s₁.pins, out := s₁.out, calls := s₁.calls } →
      t₁.lines = t₂.lines ∧ t₁.pullDataLow = t₂.pullDataLow ∧ t₁.lastApplied = t₂.lastApplied ∧ t₁.fed = t₂.fed ∧
      t₁.resetAsserted = t₂.resetAsserted ∧ t₁.gpio = t₂.gpio ∧ t₁.out.hw = t₂.out.hw)

/-- SRQ has no side effect (R107; D11): two CYCLEs whose levels differ on the SRQ pin alone differ in the SRQ sample
and the recorded levels alone. -/
def Obligations.SrqHasNoSideEffect : Prop :=
  ∀ (c : Config) (s t₁ t₂ : State) (l₁ l₂ : Mask) (snap : Option PortState) (led sound : Bool), Ready c s →
    configAdmitted c = true → (∀ i, i ≠ c.pinMap.srq → l₁.testBit i = l₂.testBit i) →
    exec (.cycle l₁ snap led sound) s = .next t₁ → exec (.cycle l₂ snap led sound) s = .next t₂ →
    t₁ = { t₂ with
      lines := { t₂.lines with srq := { t₂.lines.srq with sensedHigh := t₁.lines.srq.sensedHigh } }
      out := { t₂.out with hw := .readPinLevels (l₁ % 2 ^ c.pinWidth) :: t₂.out.hw.tail } }

/-! ## Refusals -/

/-- Before the first RESET every operation but RESET is refused, whatever else is wrong with it (R205, R207; D26;
that an op byte `0x01`..`0x0F` is no RESET here is the model's choice, notes/assumptions/22.md). -/
def Obligations.EveryOperationNeedsAReset : Prop :=
  ∀ (i : Instr) (s : State), s.mark = none → s.cfg = none → (∀ c, i ≠ .reset c) →
    exec i s = .refused (.notReset { s with mark := some .notReset, out := ⟨[], [], .nothing⟩ })

/-- A reserved op byte is refused in every session, whatever bytes follow it: the operation so, and the step whose next
call begins with such a byte (R81, R201; D29, D30; the list of calls is notes/assumptions/3.md). -/
def Obligations.ReservedOpcodeIsRefused : Prop :=
  ∀ (c : Config) (s : State) (op : Byte), Ready c s →
    exec (.reserved op) s =
      .refused (.reservedOpcode { s with mark := some .reservedOpcode, out := ⟨[], [], .nothing⟩ }) ∧
    ∀ unread rest, (9 ≤ op.toNat / 16 ∨ op.toNat % 16 ≠ 0 ∧ op.toNat / 16 ≠ 2) → s.calls = (op :: unread) :: rest →
      step s = .refused (.reservedOpcode { s with
        mark := some .reservedOpcode, out := ⟨[], [], .nothing⟩, calls := rest })

/-- The mark is sticky: every operation, RESET among them (notes/assumptions/19.md), and every step, on a marked state
is refused with the same mark (R201; D29). -/
def Obligations.RefusalMarkIsSticky : Prop :=
  ∀ (s : State) (r : Reason), s.mark = some r →
    (∀ i, exec i s = .refused (r.refusal { s with out := ⟨[], [], .nothing⟩ })) ∧
    ∃ calls, step s = .refused (r.refusal { s with out := ⟨[], [], .nothing⟩, calls := calls })

/-- A refusal writes the mark and nothing else, and hands back no event, no call and no value; each reason of the
closed list has its own name, and no operation has any other way to stop (R200, R201; D29, and
notes/assumptions/8.md for the refused state that the refusal carries). -/
def Obligations.RefusalChangesNothingElse : Prop :=
  ∀ (i : Instr) (s : State),
    (∃ t, exec i s = .next t) ∨
    ∃ r : Reason, exec i s = .refused (r.refusal { s with mark := some r, out := ⟨[], [], .nothing⟩ })

/-! ## Steps, encodings and the invariant -/

/-- A step runs the call at the head of the loop's list, with that call taken off the list (notes/assumptions/3.md). -/
def Obligations.StepRunsTheDecodedCall : Prop :=
  ∀ (i : Instr) (s : State) (rest : List (List Byte)), i.wf = true → s.calls = encode i :: rest →
    step s = exec i { s with calls := rest }

/-- Every well-formed instruction decodes from its own encoding, with every operand at every value (R79, R80, R82; the
record's layout is notes/assumptions/1.md). -/
def Obligations.DecodeOfEncode : Prop := ∀ i : Instr, i.wf = true → decode (encode i) = .ok i

/-- Each instruction has one spelling: what decodes is well-formed and its bytes are its encoding, and only a reserved op
byte, which R201 refuses whatever follows it, may have bytes after it, unread (R81, R82; notes/assumptions/1.md and
21.md). -/
def Obligations.EncodeOfDecode : Prop :=
  ∀ (bytes : List Byte) (i : Instr), decode bytes = .ok i →
    i.wf = true ∧ ∃ unread, bytes = encode i ++ unread ∧ ((∀ op, i ≠ .reserved op) → unread = [])

/-- The op byte alone names the operation (R79, R81): whatever decodes after an op byte is the operation of its
operation number, and a byte R81 reserves decodes to `reserved` whatever bytes follow it (R201). -/
def Obligations.OpByteNamesTheOperation : Prop :=
  ∀ (op : Byte) (bytes : List Byte),
    (∀ i, decode (op :: bytes) = .ok i → i.opByte = op) ∧
    ((9 ≤ op.toNat / 16 ∨ op.toNat % 16 ≠ 0 ∧ op.toNat / 16 ≠ 2) →
      decode (op :: bytes) = .ok (.reserved op))

/-- The op bytes of R79 with operand records written out (the records' layout is notes/assumptions/1.md). -/
def Obligations.SpecOpBytesDecode : Prop :=
  decode [0x10, 0x9F, 0x0C, 0x00, 0x1A, 0x10, 0x01, 0x00] = .ok (.cycle 0x61F (some ⟨0x1A, 0x10⟩) true false) ∧
  decode [0x24, 0x01, 0x01] = .ok (.sense 4 true none) ∧
  decode [0x30, 0x01, 0x00, 0x1A, 0x00] = .ok (.atnEdge true (some ⟨0x1A, 0x00⟩)) ∧
  decode [0x40, 0x10, 0x1A] = .ok (.portOut 0x10 0x1A) ∧
  decode [0x50, 0x01, 0x00, 0x01] = .ok (.gate true false true) ∧
  decode [0x60, 0x01, 0x00, 0x00, 0x01] = .ok (.refresh true false false true) ∧
  decode [0x70, 0x01, 0x01] = .ok (.sample 1 true) ∧
  decode [0x80, 0x00, 0x01] = .ok (.rotary 0 true) ∧
  decode [0x9F] = .ok (.reserved 0x9F) ∧
  decode [0x51, 0x01, 0x01, 0x01] = .ok (.reserved 0x51)

/-- The state after reset meets the invariant. -/
def Obligations.ResetStateMeetsInvariant : Prop := State.reset.Inv ∧ State.powerOn.Inv

/-- Every step keeps the invariant: the hard-wired pull flags stay false (R23), the configuration stays admitted (R39),
DATA's drive pull stays the gate's or the chip's (R132), the reported RESET condition stays that of the RESET line
(R32), every repeat counter stays in `0 .. T` and non-zero exactly in a pressed run past the threshold (R174, R175),
with no chip the gate stays off (R124), and the pins that RESET made outputs and inputs stay so (R221), with the latches
of shared pins clear (R230). -/
def Obligations.EveryStepKeepsInvariant : Prop :=
  ∀ s t : State, s.Inv → step s = .next t → t.Inv
end

