-- ==== Sys2Proof/Laws/State.lean ====
section
/-! SUPPORT. One lemma per field per update of the state, true by computation, so that no proof unfolds a record
update. -/

namespace Sys2Proof.Machine

open Sys2Proof

@[simp] theorem setSensed_cfg (s : State) (l : LineId) (v : Bool) :
    (s.setSensed l v).cfg = s.cfg := by cases l <;> rfl
@[simp] theorem setSensed_pullDataLow (s : State) (l : LineId) (v : Bool) :
    (s.setSensed l v).pullDataLow = s.pullDataLow := by cases l <;> rfl
@[simp] theorem setSensed_lastApplied (s : State) (l : LineId) (v : Bool) :
    (s.setSensed l v).lastApplied = s.lastApplied := by cases l <;> rfl
@[simp] theorem setSensed_fed (s : State) (l : LineId) (v : Bool) :
    (s.setSensed l v).fed = s.fed := by cases l <;> rfl
@[simp] theorem setSensed_resetAsserted (s : State) (l : LineId) (v : Bool) :
    (s.setSensed l v).resetAsserted = s.resetAsserted := by cases l <;> rfl
@[simp] theorem setSensed_pins (s : State) (l : LineId) (v : Bool) :
    (s.setSensed l v).pins = s.pins := by cases l <;> rfl
@[simp] theorem setSensed_mark (s : State) (l : LineId) (v : Bool) :
    (s.setSensed l v).mark = s.mark := by cases l <;> rfl
@[simp] theorem setSensed_gpio (s : State) (l : LineId) (v : Bool) :
    (s.setSensed l v).gpio = s.gpio := by cases l <;> rfl
@[simp] theorem setSensed_out (s : State) (l : LineId) (v : Bool) :
    (s.setSensed l v).out = s.out := by cases l <;> rfl
@[simp] theorem setSensed_calls (s : State) (l : LineId) (v : Bool) :
    (s.setSensed l v).calls = s.calls := by cases l <;> rfl

@[simp] theorem setDataDrivePull_cfg (s : State) (v : Bool) : (s.setDataDrivePull v).cfg = s.cfg := rfl
@[simp] theorem setDataDrivePull_pullDataLow (s : State) (v : Bool) :
    (s.setDataDrivePull v).pullDataLow = s.pullDataLow := rfl
@[simp] theorem setDataDrivePull_lastApplied (s : State) (v : Bool) :
    (s.setDataDrivePull v).lastApplied = s.lastApplied := rfl
@[simp] theorem setDataDrivePull_fed (s : State) (v : Bool) : (s.setDataDrivePull v).fed = s.fed := rfl
@[simp] theorem setDataDrivePull_resetAsserted (s : State) (v : Bool) :
    (s.setDataDrivePull v).resetAsserted = s.resetAsserted := rfl
@[simp] theorem setDataDrivePull_pins (s : State) (v : Bool) : (s.setDataDrivePull v).pins = s.pins := rfl
@[simp] theorem setDataDrivePull_mark (s : State) (v : Bool) : (s.setDataDrivePull v).mark = s.mark := rfl
@[simp] theorem setDataDrivePull_gpio (s : State) (v : Bool) : (s.setDataDrivePull v).gpio = s.gpio := rfl
@[simp] theorem setDataDrivePull_out (s : State) (v : Bool) : (s.setDataDrivePull v).out = s.out := rfl
@[simp] theorem setDataDrivePull_calls (s : State) (v : Bool) : (s.setDataDrivePull v).calls = s.calls := rfl

@[simp] theorem setDataChipPull_cfg (s : State) (v : Bool) : (s.setDataChipPull v).cfg = s.cfg := rfl
@[simp] theorem setDataChipPull_pullDataLow (s : State) (v : Bool) :
    (s.setDataChipPull v).pullDataLow = s.pullDataLow := rfl
@[simp] theorem setDataChipPull_lastApplied (s : State) (v : Bool) :
    (s.setDataChipPull v).lastApplied = s.lastApplied := rfl
@[simp] theorem setDataChipPull_fed (s : State) (v : Bool) : (s.setDataChipPull v).fed = s.fed := rfl
@[simp] theorem setDataChipPull_resetAsserted (s : State) (v : Bool) :
    (s.setDataChipPull v).resetAsserted = s.resetAsserted := rfl
@[simp] theorem setDataChipPull_pins (s : State) (v : Bool) : (s.setDataChipPull v).pins = s.pins := rfl
@[simp] theorem setDataChipPull_mark (s : State) (v : Bool) : (s.setDataChipPull v).mark = s.mark := rfl
@[simp] theorem setDataChipPull_gpio (s : State) (v : Bool) : (s.setDataChipPull v).gpio = s.gpio := rfl
@[simp] theorem setDataChipPull_out (s : State) (v : Bool) : (s.setDataChipPull v).out = s.out := rfl
@[simp] theorem setDataChipPull_calls (s : State) (v : Bool) : (s.setDataChipPull v).calls = s.calls := rfl

@[simp] theorem setClockChipPull_cfg (s : State) (v : Bool) : (s.setClockChipPull v).cfg = s.cfg := rfl
@[simp] theorem setClockChipPull_pullDataLow (s : State) (v : Bool) :
    (s.setClockChipPull v).pullDataLow = s.pullDataLow := rfl
@[simp] theorem setClockChipPull_lastApplied (s : State) (v : Bool) :
    (s.setClockChipPull v).lastApplied = s.lastApplied := rfl
@[simp] theorem setClockChipPull_fed (s : State) (v : Bool) : (s.setClockChipPull v).fed = s.fed := rfl
@[simp] theorem setClockChipPull_resetAsserted (s : State) (v : Bool) :
    (s.setClockChipPull v).resetAsserted = s.resetAsserted := rfl
@[simp] theorem setClockChipPull_pins (s : State) (v : Bool) : (s.setClockChipPull v).pins = s.pins := rfl
@[simp] theorem setClockChipPull_mark (s : State) (v : Bool) : (s.setClockChipPull v).mark = s.mark := rfl
@[simp] theorem setClockChipPull_gpio (s : State) (v : Bool) : (s.setClockChipPull v).gpio = s.gpio := rfl
@[simp] theorem setClockChipPull_out (s : State) (v : Bool) : (s.setClockChipPull v).out = s.out := rfl
@[simp] theorem setClockChipPull_calls (s : State) (v : Bool) : (s.setClockChipPull v).calls = s.calls := rfl

@[simp] theorem setPin_cfg (s : State) (i : Nat) (p : InputPin) : (s.setPin i p).cfg = s.cfg := rfl
@[simp] theorem setPin_lines (s : State) (i : Nat) (p : InputPin) : (s.setPin i p).lines = s.lines := rfl
@[simp] theorem setPin_pullDataLow (s : State) (i : Nat) (p : InputPin) :
    (s.setPin i p).pullDataLow = s.pullDataLow := rfl
@[simp] theorem setPin_lastApplied (s : State) (i : Nat) (p : InputPin) :
    (s.setPin i p).lastApplied = s.lastApplied := rfl
@[simp] theorem setPin_fed (s : State) (i : Nat) (p : InputPin) : (s.setPin i p).fed = s.fed := rfl
@[simp] theorem setPin_resetAsserted (s : State) (i : Nat) (p : InputPin) :
    (s.setPin i p).resetAsserted = s.resetAsserted := rfl
@[simp] theorem setPin_mark (s : State) (i : Nat) (p : InputPin) : (s.setPin i p).mark = s.mark := rfl
@[simp] theorem setPin_gpio (s : State) (i : Nat) (p : InputPin) : (s.setPin i p).gpio = s.gpio := rfl
@[simp] theorem setPin_out (s : State) (i : Nat) (p : InputPin) : (s.setPin i p).out = s.out := rfl
@[simp] theorem setPin_calls (s : State) (i : Nat) (p : InputPin) : (s.setPin i p).calls = s.calls := rfl

@[simp] theorem record_cfg (s : State) (h : HwCall) : (s.record h).cfg = s.cfg := rfl
@[simp] theorem record_lines (s : State) (h : HwCall) : (s.record h).lines = s.lines := rfl
@[simp] theorem record_pullDataLow (s : State) (h : HwCall) : (s.record h).pullDataLow = s.pullDataLow := rfl
@[simp] theorem record_lastApplied (s : State) (h : HwCall) : (s.record h).lastApplied = s.lastApplied := rfl
@[simp] theorem record_fed (s : State) (h : HwCall) : (s.record h).fed = s.fed := rfl
@[simp] theorem record_resetAsserted (s : State) (h : HwCall) : (s.record h).resetAsserted = s.resetAsserted := rfl
@[simp] theorem record_pins (s : State) (h : HwCall) : (s.record h).pins = s.pins := rfl
@[simp] theorem record_mark (s : State) (h : HwCall) : (s.record h).mark = s.mark := rfl
@[simp] theorem record_gpio (s : State) (h : HwCall) : (s.record h).gpio = s.gpio := rfl
@[simp] theorem record_calls (s : State) (h : HwCall) : (s.record h).calls = s.calls := rfl

@[simp] theorem readPinLevels_cfg (s : State) (m : Mask) : (s.readPinLevels m).cfg = s.cfg := rfl
@[simp] theorem readPinLevels_lines (s : State) (m : Mask) : (s.readPinLevels m).lines = s.lines := rfl
@[simp] theorem readPinLevels_pullDataLow (s : State) (m : Mask) :
    (s.readPinLevels m).pullDataLow = s.pullDataLow := rfl
@[simp] theorem readPinLevels_lastApplied (s : State) (m : Mask) :
    (s.readPinLevels m).lastApplied = s.lastApplied := rfl
@[simp] theorem readPinLevels_fed (s : State) (m : Mask) : (s.readPinLevels m).fed = s.fed := rfl
@[simp] theorem readPinLevels_resetAsserted (s : State) (m : Mask) :
    (s.readPinLevels m).resetAsserted = s.resetAsserted := rfl
@[simp] theorem readPinLevels_pins (s : State) (m : Mask) : (s.readPinLevels m).pins = s.pins := rfl
@[simp] theorem readPinLevels_mark (s : State) (m : Mask) : (s.readPinLevels m).mark = s.mark := rfl
@[simp] theorem readPinLevels_gpio (s : State) (m : Mask) : (s.readPinLevels m).gpio = s.gpio := rfl
@[simp] theorem readPinLevels_calls (s : State) (m : Mask) : (s.readPinLevels m).calls = s.calls := rfl

@[simp] theorem writePinsSet_cfg (s : State) (m : Mask) : (s.writePinsSet m).cfg = s.cfg := rfl
@[simp] theorem writePinsSet_lines (s : State) (m : Mask) : (s.writePinsSet m).lines = s.lines := rfl
@[simp] theorem writePinsSet_pullDataLow (s : State) (m : Mask) :
    (s.writePinsSet m).pullDataLow = s.pullDataLow := rfl
@[simp] theorem writePinsSet_lastApplied (s : State) (m : Mask) :
    (s.writePinsSet m).lastApplied = s.lastApplied := rfl
@[simp] theorem writePinsSet_fed (s : State) (m : Mask) : (s.writePinsSet m).fed = s.fed := rfl
@[simp] theorem writePinsSet_resetAsserted (s : State) (m : Mask) :
    (s.writePinsSet m).resetAsserted = s.resetAsserted := rfl
@[simp] theorem writePinsSet_pins (s : State) (m : Mask) : (s.writePinsSet m).pins = s.pins := rfl
@[simp] theorem writePinsSet_mark (s : State) (m : Mask) : (s.writePinsSet m).mark = s.mark := rfl
@[simp] theorem writePinsSet_calls (s : State) (m : Mask) : (s.writePinsSet m).calls = s.calls := rfl

@[simp] theorem writePinsClear_cfg (s : State) (m : Mask) : (s.writePinsClear m).cfg = s.cfg := rfl
@[simp] theorem writePinsClear_lines (s : State) (m : Mask) : (s.writePinsClear m).lines = s.lines := rfl
@[simp] theorem writePinsClear_pullDataLow (s : State) (m : Mask) :
    (s.writePinsClear m).pullDataLow = s.pullDataLow := rfl
@[simp] theorem writePinsClear_lastApplied (s : State) (m : Mask) :
    (s.writePinsClear m).lastApplied = s.lastApplied := rfl
@[simp] theorem writePinsClear_fed (s : State) (m : Mask) : (s.writePinsClear m).fed = s.fed := rfl
@[simp] theorem writePinsClear_resetAsserted (s : State) (m : Mask) :
    (s.writePinsClear m).resetAsserted = s.resetAsserted := rfl
@[simp] theorem writePinsClear_pins (s : State) (m : Mask) : (s.writePinsClear m).pins = s.pins := rfl
@[simp] theorem writePinsClear_mark (s : State) (m : Mask) : (s.writePinsClear m).mark = s.mark := rfl
@[simp] theorem writePinsClear_calls (s : State) (m : Mask) : (s.writePinsClear m).calls = s.calls := rfl

@[simp] theorem writePinFunction_cfg (s : State) (p : Nat) (d : PinDir) : (s.writePinFunction p d).cfg = s.cfg := rfl
@[simp] theorem writePinFunction_lines (s : State) (p : Nat) (d : PinDir) :
    (s.writePinFunction p d).lines = s.lines := rfl
@[simp] theorem writePinFunction_pullDataLow (s : State) (p : Nat) (d : PinDir) :
    (s.writePinFunction p d).pullDataLow = s.pullDataLow := rfl
@[simp] theorem writePinFunction_lastApplied (s : State) (p : Nat) (d : PinDir) :
    (s.writePinFunction p d).lastApplied = s.lastApplied := rfl
@[simp] theorem writePinFunction_fed (s : State) (p : Nat) (d : PinDir) : (s.writePinFunction p d).fed = s.fed := rfl
@[simp] theorem writePinFunction_resetAsserted (s : State) (p : Nat) (d : PinDir) :
    (s.writePinFunction p d).resetAsserted = s.resetAsserted := rfl
@[simp] theorem writePinFunction_pins (s : State) (p : Nat) (d : PinDir) :
    (s.writePinFunction p d).pins = s.pins := rfl
@[simp] theorem writePinFunction_mark (s : State) (p : Nat) (d : PinDir) :
    (s.writePinFunction p d).mark = s.mark := rfl
@[simp] theorem writePinFunction_calls (s : State) (p : Nat) (d : PinDir) :
    (s.writePinFunction p d).calls = s.calls := rfl

@[simp] theorem setPortInput_cfg (s : State) (b : Nat) (v : Bool) : (s.setPortInput b v).cfg = s.cfg := rfl
@[simp] theorem setPortInput_lines (s : State) (b : Nat) (v : Bool) : (s.setPortInput b v).lines = s.lines := rfl
@[simp] theorem setPortInput_pullDataLow (s : State) (b : Nat) (v : Bool) :
    (s.setPortInput b v).pullDataLow = s.pullDataLow := rfl
@[simp] theorem setPortInput_lastApplied (s : State) (b : Nat) (v : Bool) :
    (s.setPortInput b v).lastApplied = s.lastApplied := rfl
@[simp] theorem setPortInput_fed (s : State) (b : Nat) (v : Bool) : (s.setPortInput b v).fed = s.fed := rfl
@[simp] theorem setPortInput_resetAsserted (s : State) (b : Nat) (v : Bool) :
    (s.setPortInput b v).resetAsserted = s.resetAsserted := rfl
@[simp] theorem setPortInput_pins (s : State) (b : Nat) (v : Bool) : (s.setPortInput b v).pins = s.pins := rfl
@[simp] theorem setPortInput_mark (s : State) (b : Nat) (v : Bool) : (s.setPortInput b v).mark = s.mark := rfl
@[simp] theorem setPortInput_gpio (s : State) (b : Nat) (v : Bool) : (s.setPortInput b v).gpio = s.gpio := rfl
@[simp] theorem setPortInput_calls (s : State) (b : Nat) (v : Bool) : (s.setPortInput b v).calls = s.calls := rfl

@[simp] theorem signalAtn_cfg (s : State) (k : ChipKind) (v : Bool) :
    (s.signalAtn k v).cfg = s.cfg := by cases k <;> rfl
@[simp] theorem signalAtn_lines (s : State) (k : ChipKind) (v : Bool) :
    (s.signalAtn k v).lines = s.lines := by cases k <;> rfl
@[simp] theorem signalAtn_pullDataLow (s : State) (k : ChipKind) (v : Bool) :
    (s.signalAtn k v).pullDataLow = s.pullDataLow := by cases k <;> rfl
@[simp] theorem signalAtn_lastApplied (s : State) (k : ChipKind) (v : Bool) :
    (s.signalAtn k v).lastApplied = s.lastApplied := by cases k <;> rfl
@[simp] theorem signalAtn_fed (s : State) (k : ChipKind) (v : Bool) :
    (s.signalAtn k v).fed = s.fed := by cases k <;> rfl
@[simp] theorem signalAtn_resetAsserted (s : State) (k : ChipKind) (v : Bool) :
    (s.signalAtn k v).resetAsserted = s.resetAsserted := by cases k <;> rfl
@[simp] theorem signalAtn_pins (s : State) (k : ChipKind) (v : Bool) :
    (s.signalAtn k v).pins = s.pins := by cases k <;> rfl
@[simp] theorem signalAtn_mark (s : State) (k : ChipKind) (v : Bool) :
    (s.signalAtn k v).mark = s.mark := by cases k <;> rfl
@[simp] theorem signalAtn_gpio (s : State) (k : ChipKind) (v : Bool) :
    (s.signalAtn k v).gpio = s.gpio := by cases k <;> rfl
@[simp] theorem signalAtn_calls (s : State) (k : ChipKind) (v : Bool) :
    (s.signalAtn k v).calls = s.calls := by cases k <;> rfl

@[simp] theorem emit_cfg (s : State) (e : Event) : (s.emit e).cfg = s.cfg := rfl
@[simp] theorem emit_lines (s : State) (e : Event) : (s.emit e).lines = s.lines := rfl
@[simp] theorem emit_pullDataLow (s : State) (e : Event) : (s.emit e).pullDataLow = s.pullDataLow := rfl
@[simp] theorem emit_lastApplied (s : State) (e : Event) : (s.emit e).lastApplied = s.lastApplied := rfl
@[simp] theorem emit_fed (s : State) (e : Event) : (s.emit e).fed = s.fed := rfl
@[simp] theorem emit_resetAsserted (s : State) (e : Event) : (s.emit e).resetAsserted = s.resetAsserted := rfl
@[simp] theorem emit_pins (s : State) (e : Event) : (s.emit e).pins = s.pins := rfl
@[simp] theorem emit_mark (s : State) (e : Event) : (s.emit e).mark = s.mark := rfl
@[simp] theorem emit_gpio (s : State) (e : Event) : (s.emit e).gpio = s.gpio := rfl
@[simp] theorem emit_calls (s : State) (e : Event) : (s.emit e).calls = s.calls := rfl

@[simp] theorem emitButton_cfg (s : State) (i : Nat) (e : Option ButtonEvent) :
    (s.emitButton i e).cfg = s.cfg := by cases e <;> rfl
@[simp] theorem emitButton_lines (s : State) (i : Nat) (e : Option ButtonEvent) :
    (s.emitButton i e).lines = s.lines := by cases e <;> rfl
@[simp] theorem emitButton_pullDataLow (s : State) (i : Nat) (e : Option ButtonEvent) :
    (s.emitButton i e).pullDataLow = s.pullDataLow := by cases e <;> rfl
@[simp] theorem emitButton_lastApplied (s : State) (i : Nat) (e : Option ButtonEvent) :
    (s.emitButton i e).lastApplied = s.lastApplied := by cases e <;> rfl
@[simp] theorem emitButton_fed (s : State) (i : Nat) (e : Option ButtonEvent) :
    (s.emitButton i e).fed = s.fed := by cases e <;> rfl
@[simp] theorem emitButton_resetAsserted (s : State) (i : Nat) (e : Option ButtonEvent) :
    (s.emitButton i e).resetAsserted = s.resetAsserted := by cases e <;> rfl
@[simp] theorem emitButton_pins (s : State) (i : Nat) (e : Option ButtonEvent) :
    (s.emitButton i e).pins = s.pins := by cases e <;> rfl
@[simp] theorem emitButton_mark (s : State) (i : Nat) (e : Option ButtonEvent) :
    (s.emitButton i e).mark = s.mark := by cases e <;> rfl
@[simp] theorem emitButton_gpio (s : State) (i : Nat) (e : Option ButtonEvent) :
    (s.emitButton i e).gpio = s.gpio := by cases e <;> rfl
@[simp] theorem emitButton_calls (s : State) (i : Nat) (e : Option ButtonEvent) :
    (s.emitButton i e).calls = s.calls := by cases e <;> rfl

@[simp] theorem withResult_cfg (s : State) (r : Result) : (s.withResult r).cfg = s.cfg := rfl
@[simp] theorem withResult_lines (s : State) (r : Result) : (s.withResult r).lines = s.lines := rfl
@[simp] theorem withResult_pullDataLow (s : State) (r : Result) : (s.withResult r).pullDataLow = s.pullDataLow := rfl
@[simp] theorem withResult_lastApplied (s : State) (r : Result) : (s.withResult r).lastApplied = s.lastApplied := rfl
@[simp] theorem withResult_fed (s : State) (r : Result) : (s.withResult r).fed = s.fed := rfl
@[simp] theorem withResult_resetAsserted (s : State) (r : Result) :
    (s.withResult r).resetAsserted = s.resetAsserted := rfl
@[simp] theorem withResult_pins (s : State) (r : Result) : (s.withResult r).pins = s.pins := rfl
@[simp] theorem withResult_mark (s : State) (r : Result) : (s.withResult r).mark = s.mark := rfl
@[simp] theorem withResult_gpio (s : State) (r : Result) : (s.withResult r).gpio = s.gpio := rfl
@[simp] theorem withResult_calls (s : State) (r : Result) : (s.withResult r).calls = s.calls := rfl

@[simp] theorem marked_cfg (s : State) (r : Reason) : (s.marked r).cfg = s.cfg := rfl
@[simp] theorem marked_lines (s : State) (r : Reason) : (s.marked r).lines = s.lines := rfl
@[simp] theorem marked_pullDataLow (s : State) (r : Reason) : (s.marked r).pullDataLow = s.pullDataLow := rfl
@[simp] theorem marked_lastApplied (s : State) (r : Reason) : (s.marked r).lastApplied = s.lastApplied := rfl
@[simp] theorem marked_fed (s : State) (r : Reason) : (s.marked r).fed = s.fed := rfl
@[simp] theorem marked_resetAsserted (s : State) (r : Reason) : (s.marked r).resetAsserted = s.resetAsserted := rfl
@[simp] theorem marked_pins (s : State) (r : Reason) : (s.marked r).pins = s.pins := rfl
@[simp] theorem marked_gpio (s : State) (r : Reason) : (s.marked r).gpio = s.gpio := rfl
@[simp] theorem marked_calls (s : State) (r : Reason) : (s.marked r).calls = s.calls := rfl

@[simp] theorem withCalls_cfg (s : State) (cs : List (List Byte)) : (s.withCalls cs).cfg = s.cfg := rfl
@[simp] theorem withCalls_lines (s : State) (cs : List (List Byte)) : (s.withCalls cs).lines = s.lines := rfl
@[simp] theorem withCalls_pullDataLow (s : State) (cs : List (List Byte)) :
    (s.withCalls cs).pullDataLow = s.pullDataLow := rfl
@[simp] theorem withCalls_lastApplied (s : State) (cs : List (List Byte)) :
    (s.withCalls cs).lastApplied = s.lastApplied := rfl
@[simp] theorem withCalls_fed (s : State) (cs : List (List Byte)) : (s.withCalls cs).fed = s.fed := rfl
@[simp] theorem withCalls_resetAsserted (s : State) (cs : List (List Byte)) :
    (s.withCalls cs).resetAsserted = s.resetAsserted := rfl
@[simp] theorem withCalls_pins (s : State) (cs : List (List Byte)) : (s.withCalls cs).pins = s.pins := rfl
@[simp] theorem withCalls_mark (s : State) (cs : List (List Byte)) : (s.withCalls cs).mark = s.mark := rfl
@[simp] theorem withCalls_gpio (s : State) (cs : List (List Byte)) : (s.withCalls cs).gpio = s.gpio := rfl
@[simp] theorem withCalls_out (s : State) (cs : List (List Byte)) : (s.withCalls cs).out = s.out := rfl

@[simp] theorem fresh_gpio (s : State) (c : Config) : (s.fresh c).gpio = s.gpio := rfl
@[simp] theorem fresh_calls (s : State) (c : Config) : (s.fresh c).calls = s.calls := rfl

/-! What each update writes. -/

@[simp] theorem setPin_pins (s : State) (i : Nat) (p : InputPin) : (s.setPin i p).pins = s.pins.set i p := rfl
@[simp] theorem record_hw (s : State) (h : HwCall) : (s.record h).out.hw = s.out.hw ++ [h] := rfl
@[simp] theorem record_events (s : State) (h : HwCall) : (s.record h).out.events = s.out.events := rfl
@[simp] theorem record_result (s : State) (h : HwCall) : (s.record h).out.result = s.out.result := rfl
@[simp] theorem readPinLevels_out (s : State) (m : Mask) :
    (s.readPinLevels m).out = (s.record (.readPinLevels m)).out := rfl
@[simp] theorem setPortInput_out (s : State) (b : Nat) (v : Bool) :
    (s.setPortInput b v).out = (s.record (.setPortInput b v)).out := rfl
@[simp] theorem writePinsSet_out (s : State) (m : Mask) :
    (s.writePinsSet m).out = (s.record (.writePinsSet m)).out := rfl
@[simp] theorem writePinsClear_out (s : State) (m : Mask) :
    (s.writePinsClear m).out = (s.record (.writePinsClear m)).out := rfl
@[simp] theorem writePinFunction_out (s : State) (p : Nat) (d : PinDir) :
    (s.writePinFunction p d).out = (s.record (.writePinFunction p d)).out := rfl
@[simp] theorem emit_events (s : State) (e : Event) : (s.emit e).out.events = s.out.events ++ [e] := rfl
@[simp] theorem emit_hw (s : State) (e : Event) : (s.emit e).out.hw = s.out.hw := rfl
@[simp] theorem emit_result (s : State) (e : Event) : (s.emit e).out.result = s.out.result := rfl
@[simp] theorem emitButton_hw (s : State) (i : Nat) (e : Option ButtonEvent) :
    (s.emitButton i e).out.hw = s.out.hw := by cases e <;> rfl
@[simp] theorem withResult_result (s : State) (r : Result) : (s.withResult r).out.result = r := rfl
@[simp] theorem withResult_events (s : State) (r : Result) : (s.withResult r).out.events = s.out.events := rfl
@[simp] theorem withResult_hw (s : State) (r : Result) : (s.withResult r).out.hw = s.out.hw := rfl
@[simp] theorem marked_mark (s : State) (r : Reason) : (s.marked r).mark = some r := rfl
@[simp] theorem marked_out (s : State) (r : Reason) : (s.marked r).out = .empty := rfl
@[simp] theorem withCalls_calls (s : State) (cs : List (List Byte)) : (s.withCalls cs).calls = cs := rfl

/-! The lines after a write. -/

@[simp] theorem setSensed_sensedHigh (s : State) (l l' : LineId) (v : Bool) :
    (s.setSensed l v).sensedHigh l' = if l = l' then v else s.sensedHigh l' := by
  cases l <;> cases l' <;> rfl
@[simp] theorem setSensed_pulledLowByDrive (s : State) (l l' : LineId) (v : Bool) :
    (s.setSensed l v).pulledLowByDrive l' = s.pulledLowByDrive l' := by cases l <;> cases l' <;> rfl
@[simp] theorem setSensed_pulledLowByChipOutput (s : State) (l l' : LineId) (v : Bool) :
    (s.setSensed l v).pulledLowByChipOutput l' = s.pulledLowByChipOutput l' := by cases l <;> cases l' <;> rfl
@[simp] theorem setDataDrivePull_sensedHigh (s : State) (l : LineId) (v : Bool) :
    (s.setDataDrivePull v).sensedHigh l = s.sensedHigh l := by cases l <;> rfl
@[simp] theorem setDataDrivePull_pulledLowByDrive (s : State) (l : LineId) (v : Bool) :
    (s.setDataDrivePull v).pulledLowByDrive l = if l = .data then v else s.pulledLowByDrive l := by
  cases l <;> rfl
@[simp] theorem setDataDrivePull_pulledLowByChipOutput (s : State) (l : LineId) (v : Bool) :
    (s.setDataDrivePull v).pulledLowByChipOutput l = s.pulledLowByChipOutput l := by cases l <;> rfl
@[simp] theorem setDataChipPull_sensedHigh (s : State) (l : LineId) (v : Bool) :
    (s.setDataChipPull v).sensedHigh l = s.sensedHigh l := by cases l <;> rfl
@[simp] theorem setDataChipPull_pulledLowByDrive (s : State) (l : LineId) (v : Bool) :
    (s.setDataChipPull v).pulledLowByDrive l = s.pulledLowByDrive l := by cases l <;> rfl
@[simp] theorem setDataChipPull_pulledLowByChipOutput (s : State) (l : LineId) (v : Bool) :
    (s.setDataChipPull v).pulledLowByChipOutput l = if l = .data then v else s.pulledLowByChipOutput l := by
  cases l <;> rfl
@[simp] theorem setClockChipPull_sensedHigh (s : State) (l : LineId) (v : Bool) :
    (s.setClockChipPull v).sensedHigh l = s.sensedHigh l := by cases l <;> rfl
@[simp] theorem setClockChipPull_pulledLowByDrive (s : State) (l : LineId) (v : Bool) :
    (s.setClockChipPull v).pulledLowByDrive l = s.pulledLowByDrive l := by cases l <;> rfl
@[simp] theorem setClockChipPull_pulledLowByChipOutput (s : State) (l : LineId) (v : Bool) :
    (s.setClockChipPull v).pulledLowByChipOutput l = if l = .clock then v else s.pulledLowByChipOutput l := by
  cases l <;> rfl

/-! The derived reads depend on the lines alone. -/

theorem sensedHigh_congr (s t : State) (h : s.lines = t.lines) (l : LineId) : s.sensedHigh l = t.sensedHigh l := by
  cases l <;> simp [State.sensedHigh, State.line, h]
theorem pulledLowByDrive_congr (s t : State) (h : s.lines = t.lines) (l : LineId) :
    s.pulledLowByDrive l = t.pulledLowByDrive l := by cases l <;> simp [State.pulledLowByDrive, h]
theorem pulledLowByChipOutput_congr (s t : State) (h : s.lines = t.lines) (l : LineId) :
    s.pulledLowByChipOutput l = t.pulledLowByChipOutput l := by cases l <;> simp [State.pulledLowByChipOutput, h]
theorem asserted_congr (s t : State) (h : s.lines = t.lines) (l : LineId) : s.asserted l = t.asserted l := by
  simp [State.asserted, State.effHigh, sensedHigh_congr s t h, pulledLowByDrive_congr s t h,
    pulledLowByChipOutput_congr s t h]
theorem forced_congr (s t : State) (h : s.lines = t.lines) (l : LineId) : s.forced l = t.forced l := by
  simp [State.forced, pulledLowByDrive_congr s t h, pulledLowByChipOutput_congr s t h]
theorem pin_congr (s t : State) (h : s.pins = t.pins) (c : Config) (i : Nat) : s.pin c i = t.pin c i := by
  simp [State.pin, h]

/-- R25 for the lines with no pull: the effective value is the sample. -/
theorem effHigh_of_unpulled (s : State) (l : LineId) (h : l = .atn ∨ l = .srq ∨ l = .reset) :
    s.effHigh l = s.sensedHigh l := by
  rcases h with rfl | rfl | rfl <;> simp [State.effHigh, State.pulledLowByDrive, State.pulledLowByChipOutput]

end Sys2Proof.Machine
end

