-- ==== Sys2Proof/Laws/Ops.lean ====
section
/-! SUPPORT. The shared operations, each said once: mask bits, the GPIO registers after a primitive, refusing, and how
an operation begins. -/

namespace Sys2Proof.Machine

open Sys2Proof

/-! Masks. -/

@[simp] theorem testBit_pinBit (p i : Nat) : (pinBit p).testBit i = decide (p = i) := by
  simp [pinBit, Nat.one_shiftLeft, Nat.testBit_two_pow]

@[simp] theorem testBit_maskWithout (m clear : Mask) (i : Nat) :
    (maskWithout m clear).testBit i = (m.testBit i && !clear.testBit i) := by
  simp [maskWithout, Nat.testBit_xor, Nat.testBit_and]
  cases m.testBit i <;> cases clear.testBit i <;> rfl

/-! The GPIO registers after a primitive (R53). -/

@[simp] theorem writePinsSet_latch (s : State) (m : Mask) (i : Nat) :
    (s.writePinsSet m).gpio.latch.testBit i = (s.gpio.latch.testBit i || m.testBit i) := by
  simp [State.writePinsSet, Nat.testBit_or]
@[simp] theorem writePinsSet_outputs (s : State) (m : Mask) : (s.writePinsSet m).gpio.outputs = s.gpio.outputs := rfl
@[simp] theorem writePinsClear_latch (s : State) (m : Mask) (i : Nat) :
    (s.writePinsClear m).gpio.latch.testBit i = (s.gpio.latch.testBit i && !m.testBit i) := by
  simp [State.writePinsClear]
@[simp] theorem writePinsClear_outputs (s : State) (m : Mask) :
    (s.writePinsClear m).gpio.outputs = s.gpio.outputs := rfl
@[simp] theorem writePinFunction_latch (s : State) (p : Nat) (d : PinDir) :
    (s.writePinFunction p d).gpio.latch = s.gpio.latch := rfl
@[simp] theorem writePinFunction_outputs (s : State) (p : Nat) (d : PinDir) (i : Nat) :
    (s.writePinFunction p d).gpio.outputs.testBit i =
      if p = i then decide (d = .output) else s.gpio.outputs.testBit i := by
  cases d <;> by_cases h : p = i <;> simp [State.writePinFunction, Nat.testBit_or, h]

/-- A primitive that writes the GPIO twice with the same operand leaves what one write leaves (R54). -/
theorem writePinsSet_twice (s : State) (m : Mask) :
    ((s.writePinsSet m).writePinsSet m).gpio = (s.writePinsSet m).gpio := by
  simp [State.writePinsSet, State.record]

/-! The function of a list of pins. -/

theorem writePinFunctions_cons (s : State) (d : PinDir) (p : Nat) (ps : List Nat) :
    s.writePinFunctions d (p :: ps) = (s.writePinFunction p d).writePinFunctions d ps := rfl

/-- `writePinFunctions` writes the GPIO's functions and the trace only. -/
theorem writePinFunctions_frame (d : PinDir) (ps : List Nat) (s : State) :
    let t := s.writePinFunctions d ps
    t.cfg = s.cfg ∧ t.lines = s.lines ∧ t.pullDataLow = s.pullDataLow ∧ t.lastApplied = s.lastApplied ∧
    t.fed = s.fed ∧ t.resetAsserted = s.resetAsserted ∧ t.pins = s.pins ∧ t.mark = s.mark ∧ t.calls = s.calls ∧
    t.gpio.latch = s.gpio.latch ∧ t.out.events = s.out.events ∧ t.out.result = s.out.result ∧
    t.out.hw = s.out.hw ++ ps.map (fun p => HwCall.writePinFunction p d) := by
  induction ps generalizing s with
  | nil => simp [State.writePinFunctions]
  | cons p ps ih => simpa [writePinFunctions_cons] using ih (s.writePinFunction p d)

theorem writePinFunctions_outputs (d : PinDir) (ps : List Nat) (s : State) (i : Nat) :
    (s.writePinFunctions d ps).gpio.outputs.testBit i =
      if i ∈ ps then decide (d = .output) else s.gpio.outputs.testBit i := by
  induction ps generalizing s with
  | nil => simp [State.writePinFunctions]
  | cons p ps ih =>
    rw [writePinFunctions_cons, ih, writePinFunction_outputs]
    by_cases h : p = i
    · subst h; simp
    · have h' : ¬ i = p := fun e => h e.symm
      simp [h, h']

/-! Refusing and beginning. -/

theorem refuse_ne_next (s t : State) (r : Reason) : s.refuse r ≠ .next t := by simp [State.refuse]

/-- Everything that beginning an operation can do, when it answers a next state. -/
theorem enter_next {s t : State} {run : Config → State → StepOutcome} (h : s.enter run = .next t) :
    s.mark = none ∧ ∃ c, s.cfg = some c ∧ run c { s with out := .empty } = .next t := by
  unfold State.enter at h
  split at h
  · exact absurd h (refuse_ne_next _ _ _)
  · rename_i hm
    split at h
    · exact absurd h (refuse_ne_next _ _ _)
    · rename_i c hc
      exact ⟨hm, c, hc, h⟩

theorem enter_running {s : State} {c : Config} (run : Config → State → StepOutcome) (hm : s.mark = none)
    (hc : s.cfg = some c) : s.enter run = run c { s with out := .empty } := by simp [State.enter, hm, hc]

theorem enter_marked {s : State} {r : Reason} (run : Config → State → StepOutcome) (hm : s.mark = some r) :
    s.enter run = s.refuse r := by simp [State.enter, hm]

theorem enter_notReset {s : State} (run : Config → State → StepOutcome) (hm : s.mark = none) (hc : s.cfg = none) :
    s.enter run = s.refuse .notReset := by simp [State.enter, hm, hc]

/-- The refused state does not depend on what the operation had handed back. -/
@[simp] theorem refuse_withOutEmpty (s : State) (r : Reason) :
    State.refuse { s with out := .empty } r = s.refuse r := rfl

end Sys2Proof.Machine
end

