-- ==== Sys2Proof/Laws/ChipBridge.lean ====
section
/-! SUPPORT. ChipBridge's steps, each said once: what it writes and what it leaves. -/

namespace Sys2Proof.Machine

open Sys2Proof

/-! Flags. -/

theorem gate_variantA (c : Config) (h : c.chipKind = .variantA) (o a d : Bool) : gate c o a d = (d && (o ^^ a)) := by
  simp only [gate, h]; cases d <;> rfl
theorem gate_variantB (c : Config) (h : c.chipKind = .variantB) (o a d : Bool) : gate c o a d = (d && (o && a)) := by
  simp only [gate, h]; cases d <;> rfl
theorem gate_absent (c : Config) (h : c.chipKind = .absent) (o a d : Bool) : gate c o a d = (o && a) := by
  simp only [gate, h]

/-- R124: with no chip the gate reads ATNA as 0 and never pulls. -/
theorem gate_absent_none (c : Config) (h : c.chipKind = .absent) (a : Bool) :
    gate c (atnaOutOf c none) a (atnaDirOf c none) = false := by simp [gate_absent c h, atnaOutOf]

theorem chipAttached_iff (c : Config) : chipAttached c = true ↔ c.chipKind ≠ .absent := by
  simp [chipAttached]

theorem snapshotMatches_some (c : Config) (p : PortState) : snapshotMatches c (some p) = chipAttached c := by simp [snapshotMatches]
theorem snapshotMatches_none (c : Config) : snapshotMatches c none = !chipAttached c := by simp [snapshotMatches]

/-! Restoring DATA's total pull (R132). -/

@[simp] theorem restoreDataPull_cfg  (s : State) : (s.restoreDataPull).cfg = s.cfg := rfl
@[simp] theorem restoreDataPull_pullDataLow  (s : State) : (s.restoreDataPull).pullDataLow = s.pullDataLow := rfl
@[simp] theorem restoreDataPull_lastApplied  (s : State) : (s.restoreDataPull).lastApplied = s.lastApplied := rfl
@[simp] theorem restoreDataPull_fed  (s : State) : (s.restoreDataPull).fed = s.fed := rfl
@[simp] theorem restoreDataPull_resetAsserted  (s : State) :
    (s.restoreDataPull).resetAsserted = s.resetAsserted := rfl
@[simp] theorem restoreDataPull_pins  (s : State) : (s.restoreDataPull).pins = s.pins := rfl
@[simp] theorem restoreDataPull_mark  (s : State) : (s.restoreDataPull).mark = s.mark := rfl
@[simp] theorem restoreDataPull_gpio  (s : State) : (s.restoreDataPull).gpio = s.gpio := rfl
@[simp] theorem restoreDataPull_out  (s : State) : (s.restoreDataPull).out = s.out := rfl
@[simp] theorem restoreDataPull_calls  (s : State) : (s.restoreDataPull).calls = s.calls := rfl
@[simp] theorem restoreDataPull_sensedHigh (s : State) (l : LineId) :
    s.restoreDataPull.sensedHigh l = s.sensedHigh l := by simp [State.restoreDataPull]
@[simp] theorem restoreDataPull_pulledLowByChipOutput (s : State) (l : LineId) :
    s.restoreDataPull.pulledLowByChipOutput l = s.pulledLowByChipOutput l := by simp [State.restoreDataPull]
@[simp] theorem restoreDataPull_pulledLowByDrive (s : State) (l : LineId) :
    s.restoreDataPull.pulledLowByDrive l =
      if l = .data then s.pullDataLow || s.pulledLowByChipOutput .data else s.pulledLowByDrive l := by
  simp [State.restoreDataPull]
theorem restoreDataPull_lines (s : State) :
    s.restoreDataPull.lines = { s.lines with data := { s.lines.data with
      pulledLowByDrive := s.pullDataLow || s.lines.data.pulledLowByChipOutput } } := rfl

/-! Feeding ATN to the chip (R125, R126). -/

@[simp] theorem feedAtn_cfg (c : Config) (a : Bool) (s : State) :
    (feedAtn c a s).cfg = s.cfg := by unfold feedAtn; split <;> simp
@[simp] theorem feedAtn_lines (c : Config) (a : Bool) (s : State) :
    (feedAtn c a s).lines = s.lines := by unfold feedAtn; split <;> simp
@[simp] theorem feedAtn_pullDataLow (c : Config) (a : Bool) (s : State) :
    (feedAtn c a s).pullDataLow = s.pullDataLow := by unfold feedAtn; split <;> simp
@[simp] theorem feedAtn_lastApplied (c : Config) (a : Bool) (s : State) :
    (feedAtn c a s).lastApplied = s.lastApplied := by unfold feedAtn; split <;> simp
@[simp] theorem feedAtn_resetAsserted (c : Config) (a : Bool) (s : State) :
    (feedAtn c a s).resetAsserted = s.resetAsserted := by unfold feedAtn; split <;> simp
@[simp] theorem feedAtn_pins (c : Config) (a : Bool) (s : State) :
    (feedAtn c a s).pins = s.pins := by unfold feedAtn; split <;> simp
@[simp] theorem feedAtn_mark (c : Config) (a : Bool) (s : State) :
    (feedAtn c a s).mark = s.mark := by unfold feedAtn; split <;> simp
@[simp] theorem feedAtn_gpio (c : Config) (a : Bool) (s : State) :
    (feedAtn c a s).gpio = s.gpio := by unfold feedAtn; split <;> simp
@[simp] theorem feedAtn_calls (c : Config) (a : Bool) (s : State) :
    (feedAtn c a s).calls = s.calls := by unfold feedAtn; split <;> simp
@[simp] theorem feedAtn_fed (c : Config) (a : Bool) (s : State) :
    (feedAtn c a s).fed = if chipAttached c then { s.fed with atn := a } else s.fed := by
  unfold feedAtn; split <;> simp
theorem feedAtn_hw (c : Config) (a : Bool) (s : State) :
    (feedAtn c a s).out.hw = s.out.hw ++
      (match c.chipKind with
        | .variantA => [.setPortInput c.portMap.atnIn a, .signalEdgeInput a]
        | .variantB => [.setPortInput c.portMap.atnIn a, .setLevelFlag a]
        | .absent => []) := by
  cases h : c.chipKind <;> simp [feedAtn, chipAttached, h, State.signalAtn, State.setPortInput, State.record]
@[simp] theorem feedAtn_events (c : Config) (a : Bool) (s : State) :
    (feedAtn c a s).out.events = s.out.events := by
  cases h : c.chipKind <;> simp [feedAtn, chipAttached, h, State.signalAtn, State.setPortInput, State.record]

@[simp] theorem feedAtn_sensedHigh (c : Config) (a : Bool) (s : State) (l : LineId) :
    (feedAtn c a s).sensedHigh l = s.sensedHigh l := sensedHigh_congr _ _ (by simp) l
@[simp] theorem feedAtn_pulledLowByDrive (c : Config) (a : Bool) (s : State) (l : LineId) :
    (feedAtn c a s).pulledLowByDrive l = s.pulledLowByDrive l := pulledLowByDrive_congr _ _ (by simp) l
@[simp] theorem feedAtn_pulledLowByChipOutput (c : Config) (a : Bool) (s : State) (l : LineId) :
    (feedAtn c a s).pulledLowByChipOutput l = s.pulledLowByChipOutput l := pulledLowByChipOutput_congr _ _ (by simp) l
@[simp] theorem feedAtn_asserted (c : Config) (a : Bool) (s : State) (l : LineId) :
    (feedAtn c a s).asserted l = s.asserted l := asserted_congr _ _ (by simp) l
@[simp] theorem feedAtn_forced (c : Config) (a : Bool) (s : State) (l : LineId) :
    (feedAtn c a s).forced l = s.forced l := forced_congr _ _ (by simp) l

/-! OnAtnTransition (R125). -/

@[simp] theorem atnTransition_cfg (c : Config) (a : Bool) (snap : Option PortState) (s : State) :
    (atnTransition c a snap s).cfg = s.cfg := by simp [atnTransition]
@[simp] theorem atnTransition_lastApplied (c : Config) (a : Bool) (snap : Option PortState) (s : State) :
    (atnTransition c a snap s).lastApplied = s.lastApplied := by simp [atnTransition]
@[simp] theorem atnTransition_resetAsserted (c : Config) (a : Bool) (snap : Option PortState) (s : State) :
    (atnTransition c a snap s).resetAsserted = s.resetAsserted := by simp [atnTransition]
@[simp] theorem atnTransition_pins (c : Config) (a : Bool) (snap : Option PortState) (s : State) :
    (atnTransition c a snap s).pins = s.pins := by simp [atnTransition]
@[simp] theorem atnTransition_mark (c : Config) (a : Bool) (snap : Option PortState) (s : State) :
    (atnTransition c a snap s).mark = s.mark := by simp [atnTransition]
@[simp] theorem atnTransition_gpio (c : Config) (a : Bool) (snap : Option PortState) (s : State) :
    (atnTransition c a snap s).gpio = s.gpio := by simp [atnTransition]
@[simp] theorem atnTransition_calls (c : Config) (a : Bool) (snap : Option PortState) (s : State) :
    (atnTransition c a snap s).calls = s.calls := by simp [atnTransition]
@[simp] theorem atnTransition_pullDataLow (c : Config) (a : Bool) (snap : Option PortState) (s : State) :
    (atnTransition c a snap s).pullDataLow = gate c (atnaOutOf c snap) a (atnaDirOf c snap) := by
  simp [atnTransition]
@[simp] theorem atnTransition_fed (c : Config) (a : Bool) (snap : Option PortState) (s : State) :
    (atnTransition c a snap s).fed = if chipAttached c then { s.fed with atn := a } else s.fed := by
  simp [atnTransition]
theorem atnTransition_lines (c : Config) (a : Bool) (snap : Option PortState) (s : State) :
    (atnTransition c a snap s).lines =
      ⟨s.lines.atn,
        ⟨s.lines.data.sensedHigh,
          gate c (atnaOutOf c snap) a (atnaDirOf c snap) || s.lines.data.pulledLowByChipOutput,
          s.lines.data.pulledLowByChipOutput⟩,
        s.lines.clock, s.lines.srq, s.lines.reset⟩ := by
  simp [atnTransition, restoreDataPull_lines]
theorem atnTransition_hw (c : Config) (a : Bool) (snap : Option PortState) (s : State) :
    (atnTransition c a snap s).out.hw = (feedAtn c a s).out.hw := by simp [atnTransition]
@[simp] theorem atnTransition_events (c : Config) (a : Bool) (snap : Option PortState) (s : State) :
    (atnTransition c a snap s).out.events = s.out.events := by simp [atnTransition]
@[simp] theorem atnTransition_sensedHigh (c : Config) (a : Bool) (snap : Option PortState) (s : State) (l : LineId) :
    (atnTransition c a snap s).sensedHigh l = s.sensedHigh l := by
  cases l <;> simp [State.sensedHigh, State.line, atnTransition_lines]
@[simp] theorem atnTransition_pulledLowByChipOutput (c : Config) (a : Bool) (snap : Option PortState) (s : State)
    (l : LineId) : (atnTransition c a snap s).pulledLowByChipOutput l = s.pulledLowByChipOutput l := by
  cases l <;> simp [State.pulledLowByChipOutput, atnTransition_lines]

/-! OnChipPortOutput (R130). -/

@[simp] theorem decodePort_cfg (c : Config) (st d : Byte) (s : State) : (decodePort c st d s).cfg = s.cfg := rfl
@[simp] theorem decodePort_fed (c : Config) (st d : Byte) (s : State) : (decodePort c st d s).fed = s.fed := rfl
@[simp] theorem decodePort_resetAsserted (c : Config) (st d : Byte) (s : State) :
    (decodePort c st d s).resetAsserted = s.resetAsserted := rfl
@[simp] theorem decodePort_pins (c : Config) (st d : Byte) (s : State) : (decodePort c st d s).pins = s.pins := rfl
@[simp] theorem decodePort_mark (c : Config) (st d : Byte) (s : State) : (decodePort c st d s).mark = s.mark := rfl
@[simp] theorem decodePort_gpio (c : Config) (st d : Byte) (s : State) : (decodePort c st d s).gpio = s.gpio := rfl
@[simp] theorem decodePort_out (c : Config) (st d : Byte) (s : State) : (decodePort c st d s).out = s.out := rfl
@[simp] theorem decodePort_calls (c : Config) (st d : Byte) (s : State) : (decodePort c st d s).calls = s.calls := rfl
@[simp] theorem decodePort_pullDataLow (c : Config) (st d : Byte) (s : State) :
    (decodePort c st d s).pullDataLow =
      gate c (portBit st c.portMap.atnaOut) (s.asserted .atn) (portBit d c.portMap.atnaOut) := rfl
@[simp] theorem decodePort_lastApplied (c : Config) (st d : Byte) (s : State) :
    (decodePort c st d s).lastApplied = some ⟨d, st⟩ := rfl
theorem decodePort_lines (c : Config) (st d : Byte) (s : State) :
    (decodePort c st d s).lines = { s.lines with
      data := ⟨s.lines.data.sensedHigh,
        gate c (portBit st c.portMap.atnaOut) (s.asserted .atn) (portBit d c.portMap.atnaOut) ||
          wantsLow st d c.portMap.dataOut,
        wantsLow st d c.portMap.dataOut⟩
      clock := { s.lines.clock with pulledLowByChipOutput := wantsLow st d c.portMap.clockOut } } := rfl
@[simp] theorem decodePort_sensedHigh (c : Config) (st d : Byte) (s : State) (l : LineId) :
    (decodePort c st d s).sensedHigh l = s.sensedHigh l := by cases l <;> rfl

/-! Input propagation (R133). -/

@[simp] theorem feedData_cfg (c : Config) (s : State) :
    (feedData c s).cfg = s.cfg := by unfold feedData; split <;> simp
@[simp] theorem feedData_lines (c : Config) (s : State) :
    (feedData c s).lines = s.lines := by unfold feedData; split <;> simp
@[simp] theorem feedData_pullDataLow (c : Config) (s : State) :
    (feedData c s).pullDataLow = s.pullDataLow := by unfold feedData; split <;> simp
@[simp] theorem feedData_lastApplied (c : Config) (s : State) :
    (feedData c s).lastApplied = s.lastApplied := by unfold feedData; split <;> simp
@[simp] theorem feedData_resetAsserted (c : Config) (s : State) :
    (feedData c s).resetAsserted = s.resetAsserted := by unfold feedData; split <;> simp
@[simp] theorem feedData_pins (c : Config) (s : State) :
    (feedData c s).pins = s.pins := by unfold feedData; split <;> simp
@[simp] theorem feedData_mark (c : Config) (s : State) :
    (feedData c s).mark = s.mark := by unfold feedData; split <;> simp
@[simp] theorem feedData_gpio (c : Config) (s : State) :
    (feedData c s).gpio = s.gpio := by unfold feedData; split <;> simp
@[simp] theorem feedData_calls (c : Config) (s : State) :
    (feedData c s).calls = s.calls := by unfold feedData; split <;> simp
@[simp] theorem feedData_sensedHigh (c : Config) (s : State) (l : LineId) :
    (feedData c s).sensedHigh l = s.sensedHigh l := sensedHigh_congr _ _ (by simp) l
@[simp] theorem feedData_pulledLowByDrive (c : Config) (s : State) (l : LineId) :
    (feedData c s).pulledLowByDrive l = s.pulledLowByDrive l := pulledLowByDrive_congr _ _ (by simp) l
@[simp] theorem feedData_pulledLowByChipOutput (c : Config) (s : State) (l : LineId) :
    (feedData c s).pulledLowByChipOutput l = s.pulledLowByChipOutput l := pulledLowByChipOutput_congr _ _ (by simp) l
@[simp] theorem feedData_asserted (c : Config) (s : State) (l : LineId) :
    (feedData c s).asserted l = s.asserted l := asserted_congr _ _ (by simp) l
@[simp] theorem feedData_forced (c : Config) (s : State) (l : LineId) :
    (feedData c s).forced l = s.forced l := forced_congr _ _ (by simp) l
@[simp] theorem feedClock_cfg (c : Config) (s : State) :
    (feedClock c s).cfg = s.cfg := by unfold feedClock; split <;> simp
@[simp] theorem feedClock_lines (c : Config) (s : State) :
    (feedClock c s).lines = s.lines := by unfold feedClock; split <;> simp
@[simp] theorem feedClock_pullDataLow (c : Config) (s : State) :
    (feedClock c s).pullDataLow = s.pullDataLow := by unfold feedClock; split <;> simp
@[simp] theorem feedClock_lastApplied (c : Config) (s : State) :
    (feedClock c s).lastApplied = s.lastApplied := by unfold feedClock; split <;> simp
@[simp] theorem feedClock_resetAsserted (c : Config) (s : State) :
    (feedClock c s).resetAsserted = s.resetAsserted := by unfold feedClock; split <;> simp
@[simp] theorem feedClock_pins (c : Config) (s : State) :
    (feedClock c s).pins = s.pins := by unfold feedClock; split <;> simp
@[simp] theorem feedClock_mark (c : Config) (s : State) :
    (feedClock c s).mark = s.mark := by unfold feedClock; split <;> simp
@[simp] theorem feedClock_gpio (c : Config) (s : State) :
    (feedClock c s).gpio = s.gpio := by unfold feedClock; split <;> simp
@[simp] theorem feedClock_calls (c : Config) (s : State) :
    (feedClock c s).calls = s.calls := by unfold feedClock; split <;> simp
@[simp] theorem feedClock_sensedHigh (c : Config) (s : State) (l : LineId) :
    (feedClock c s).sensedHigh l = s.sensedHigh l := sensedHigh_congr _ _ (by simp) l
@[simp] theorem feedClock_pulledLowByDrive (c : Config) (s : State) (l : LineId) :
    (feedClock c s).pulledLowByDrive l = s.pulledLowByDrive l := pulledLowByDrive_congr _ _ (by simp) l
@[simp] theorem feedClock_pulledLowByChipOutput (c : Config) (s : State) (l : LineId) :
    (feedClock c s).pulledLowByChipOutput l = s.pulledLowByChipOutput l := pulledLowByChipOutput_congr _ _ (by simp) l
@[simp] theorem feedClock_asserted (c : Config) (s : State) (l : LineId) :
    (feedClock c s).asserted l = s.asserted l := asserted_congr _ _ (by simp) l
@[simp] theorem feedClock_forced (c : Config) (s : State) (l : LineId) :
    (feedClock c s).forced l = s.forced l := forced_congr _ _ (by simp) l
@[simp] theorem propagateInputs_cfg (c : Config) (s : State) :
    (propagateInputs c s).cfg = s.cfg := by unfold propagateInputs; split <;> simp
@[simp] theorem propagateInputs_lines (c : Config) (s : State) :
    (propagateInputs c s).lines = s.lines := by unfold propagateInputs; split <;> simp
@[simp] theorem propagateInputs_pullDataLow (c : Config) (s : State) :
    (propagateInputs c s).pullDataLow = s.pullDataLow := by unfold propagateInputs; split <;> simp
@[simp] theorem propagateInputs_lastApplied (c : Config) (s : State) :
    (propagateInputs c s).lastApplied = s.lastApplied := by unfold propagateInputs; split <;> simp
@[simp] theorem propagateInputs_resetAsserted (c : Config) (s : State) :
    (propagateInputs c s).resetAsserted = s.resetAsserted := by unfold propagateInputs; split <;> simp
@[simp] theorem propagateInputs_pins (c : Config) (s : State) :
    (propagateInputs c s).pins = s.pins := by unfold propagateInputs; split <;> simp
@[simp] theorem propagateInputs_mark (c : Config) (s : State) :
    (propagateInputs c s).mark = s.mark := by unfold propagateInputs; split <;> simp
@[simp] theorem propagateInputs_gpio (c : Config) (s : State) :
    (propagateInputs c s).gpio = s.gpio := by unfold propagateInputs; split <;> simp
@[simp] theorem propagateInputs_calls (c : Config) (s : State) :
    (propagateInputs c s).calls = s.calls := by unfold propagateInputs; split <;> simp
@[simp] theorem propagateInputs_sensedHigh (c : Config) (s : State) (l : LineId) :
    (propagateInputs c s).sensedHigh l = s.sensedHigh l := sensedHigh_congr _ _ (by simp) l
@[simp] theorem propagateInputs_pulledLowByDrive (c : Config) (s : State) (l : LineId) :
    (propagateInputs c s).pulledLowByDrive l = s.pulledLowByDrive l := pulledLowByDrive_congr _ _ (by simp) l
@[simp] theorem propagateInputs_pulledLowByChipOutput (c : Config) (s : State) (l : LineId) :
    (propagateInputs c s).pulledLowByChipOutput l = s.pulledLowByChipOutput l := pulledLowByChipOutput_congr _ _ (by simp) l
@[simp] theorem propagateInputs_asserted (c : Config) (s : State) (l : LineId) :
    (propagateInputs c s).asserted l = s.asserted l := asserted_congr _ _ (by simp) l
@[simp] theorem propagateInputs_forced (c : Config) (s : State) (l : LineId) :
    (propagateInputs c s).forced l = s.forced l := forced_congr _ _ (by simp) l
@[simp] theorem feedData_fed (c : Config) (s : State) :
    (feedData c s).fed = { s.fed with data := s.asserted .data } := by
  unfold feedData
  by_cases h : s.asserted .data = s.fed.data
  · simp [h]
  · simp [h]
@[simp] theorem feedClock_fed (c : Config) (s : State) :
    (feedClock c s).fed = { s.fed with clock := s.asserted .clock } := by
  unfold feedClock
  by_cases h : s.asserted .clock = s.fed.clock
  · simp [h]
  · simp [h]
/-- After propagation the chip's DATA-in and CLOCK-in agree with the effective values (R133). -/
theorem propagateInputs_fed (c : Config) (s : State) :
    (propagateInputs c s).fed =
      if chipAttached c then ⟨s.fed.atn, s.asserted .data, s.asserted .clock⟩ else s.fed := by
  unfold propagateInputs; split <;> simp
theorem propagateInputs_hw (c : Config) (s : State) :
    (propagateInputs c s).out.hw = s.out.hw ++
      if chipAttached c then
        (if s.asserted .data = s.fed.data then [] else [.setPortInput c.portMap.dataIn (s.asserted .data)]) ++
        (if s.asserted .clock = s.fed.clock then [] else [.setPortInput c.portMap.clockIn (s.asserted .clock)])
      else [] := by
  unfold propagateInputs
  split
  · by_cases hd : s.asserted .data = s.fed.data <;> by_cases hk : s.asserted .clock = s.fed.clock <;>
      simp [feedClock, hk] <;> simp [feedData, hd]
  · simp
@[simp] theorem propagateInputs_events (c : Config) (s : State) :
    (propagateInputs c s).out.events = s.out.events := by
  unfold propagateInputs
  split
  · unfold feedClock feedData; repeat' split
    all_goals simp
  · rfl

end Sys2Proof.Machine
end

