-- ==== Sys2Proof/Laws/BusLine.lean ====
section
/-! SUPPORT. SENSE and the sensing phase, said once. -/

namespace Sys2Proof.Machine

open Sys2Proof

@[simp] theorem senseLevel_plain (c : Config) (h : c.invertInputs = false) (raw : Bool) : senseLevel c raw = raw := by
  simp [senseLevel, h]
@[simp] theorem senseLevel_inverted (c : Config) (h : c.invertInputs = true) (raw : Bool) :
    senseLevel c raw = !raw := by simp [senseLevel, h]

/-- Everything a SENSE of ATN can do: store the sample, and call OnAtnTransition on a change (R104). -/
theorem senseAtn_cases (c : Config) (raw : Bool) (snap : Option PortState) (s : State) :
    (senseLevel c raw = s.sensedHigh .atn ∧ senseAtn c raw snap s = s.setSensed .atn (senseLevel c raw)) ∨
    (senseLevel c raw ≠ s.sensedHigh .atn ∧
      senseAtn c raw snap s =
        atnTransition c (!senseLevel c raw) snap (s.setSensed .atn (senseLevel c raw))) := by
  by_cases h : senseLevel c raw = s.sensedHigh .atn
  · left; simp [senseAtn, h]
  · right; simp [senseAtn, h]

@[simp] theorem senseAtn_cfg (c : Config) (raw : Bool) (snap : Option PortState) (s : State) :
    (senseAtn c raw snap s).cfg = s.cfg := by
  rcases senseAtn_cases c raw snap s with ⟨-, h⟩ | ⟨-, h⟩ <;> simp [h]
@[simp] theorem senseAtn_lastApplied (c : Config) (raw : Bool) (snap : Option PortState) (s : State) :
    (senseAtn c raw snap s).lastApplied = s.lastApplied := by
  rcases senseAtn_cases c raw snap s with ⟨-, h⟩ | ⟨-, h⟩ <;> simp [h]
@[simp] theorem senseAtn_resetAsserted (c : Config) (raw : Bool) (snap : Option PortState) (s : State) :
    (senseAtn c raw snap s).resetAsserted = s.resetAsserted := by
  rcases senseAtn_cases c raw snap s with ⟨-, h⟩ | ⟨-, h⟩ <;> simp [h]
@[simp] theorem senseAtn_pins (c : Config) (raw : Bool) (snap : Option PortState) (s : State) :
    (senseAtn c raw snap s).pins = s.pins := by
  rcases senseAtn_cases c raw snap s with ⟨-, h⟩ | ⟨-, h⟩ <;> simp [h]
@[simp] theorem senseAtn_mark (c : Config) (raw : Bool) (snap : Option PortState) (s : State) :
    (senseAtn c raw snap s).mark = s.mark := by
  rcases senseAtn_cases c raw snap s with ⟨-, h⟩ | ⟨-, h⟩ <;> simp [h]
@[simp] theorem senseAtn_gpio (c : Config) (raw : Bool) (snap : Option PortState) (s : State) :
    (senseAtn c raw snap s).gpio = s.gpio := by
  rcases senseAtn_cases c raw snap s with ⟨-, h⟩ | ⟨-, h⟩ <;> simp [h]
@[simp] theorem senseAtn_calls (c : Config) (raw : Bool) (snap : Option PortState) (s : State) :
    (senseAtn c raw snap s).calls = s.calls := by
  rcases senseAtn_cases c raw snap s with ⟨-, h⟩ | ⟨-, h⟩ <;> simp [h]
@[simp] theorem senseLine_cfg (c : Config) (l : LineId) (raw : Bool) (snap : Option PortState) (s : State) :
    (senseLine c l raw snap s).cfg = s.cfg := by
  cases l <;> simp [senseLine, sensePullable, senseSrq, senseReset]
@[simp] theorem senseLine_lastApplied (c : Config) (l : LineId) (raw : Bool) (snap : Option PortState) (s : State) :
    (senseLine c l raw snap s).lastApplied = s.lastApplied := by
  cases l <;> simp [senseLine, sensePullable, senseSrq, senseReset]
@[simp] theorem senseLine_pins (c : Config) (l : LineId) (raw : Bool) (snap : Option PortState) (s : State) :
    (senseLine c l raw snap s).pins = s.pins := by
  cases l <;> simp [senseLine, sensePullable, senseSrq, senseReset]
@[simp] theorem senseLine_mark (c : Config) (l : LineId) (raw : Bool) (snap : Option PortState) (s : State) :
    (senseLine c l raw snap s).mark = s.mark := by
  cases l <;> simp [senseLine, sensePullable, senseSrq, senseReset]
@[simp] theorem senseLine_gpio (c : Config) (l : LineId) (raw : Bool) (snap : Option PortState) (s : State) :
    (senseLine c l raw snap s).gpio = s.gpio := by
  cases l <;> simp [senseLine, sensePullable, senseSrq, senseReset]
@[simp] theorem senseLine_calls (c : Config) (l : LineId) (raw : Bool) (snap : Option PortState) (s : State) :
    (senseLine c l raw snap s).calls = s.calls := by
  cases l <;> simp [senseLine, sensePullable, senseSrq, senseReset]
/-- The line that is sensed holds its sample afterwards (R101, R102, R105). -/
theorem senseLine_sensedHigh (c : Config) (l l' : LineId) (raw : Bool) (snap : Option PortState) (s : State) :
    (senseLine c l raw snap s).sensedHigh l' =
      if l = l' then (if s.forced l then true else senseLevel c raw) else s.sensedHigh l' := by
  cases l
  case atn =>
    rcases senseAtn_cases c raw snap s with ⟨-, h⟩ | ⟨-, h⟩ <;>
      simp [senseLine, h, State.forced, State.pulledLowByDrive, State.pulledLowByChipOutput]
  all_goals
    cases l' <;> simp [senseLine, sensePullable, senseSrq, senseReset] <;>
      first
        | rfl
        | simp [State.forced, State.pulledLowByDrive, State.pulledLowByChipOutput]

@[simp] theorem senseLine_pulledLowByChipOutput (c : Config) (l l' : LineId) (raw : Bool) (snap : Option PortState)
    (s : State) : (senseLine c l raw snap s).pulledLowByChipOutput l' = s.pulledLowByChipOutput l' := by
  cases l
  case atn => rcases senseAtn_cases c raw snap s with ⟨-, h⟩ | ⟨-, h⟩ <;> simp [senseLine, h]
  case reset => cases l' <;> rfl
  all_goals simp [senseLine, sensePullable, senseSrq]

/-- SENSE of a line other than ATN writes nothing but that line's sample and, for RESET, the reported condition. -/
theorem senseLine_eq (c : Config) (l : LineId) (raw : Bool) (snap : Option PortState) (s : State) (h : l ≠ .atn) :
    senseLine c l raw snap s =
      { s.setSensed l (if s.forced l then true else senseLevel c raw) with
        resetAsserted := if l = .reset then resetCondition c (senseLevel c raw) else s.resetAsserted } := by
  cases l
  case atn => exact absurd rfl h
  all_goals rfl

@[simp] theorem sensingPhase_cfg (c : Config) (levels : Mask) (snap : Option PortState) (s : State) :
    (sensingPhase c levels snap s).cfg = s.cfg := by simp [sensingPhase]
@[simp] theorem sensingPhase_lastApplied (c : Config) (levels : Mask) (snap : Option PortState) (s : State) :
    (sensingPhase c levels snap s).lastApplied = s.lastApplied := by simp [sensingPhase]
@[simp] theorem sensingPhase_pins (c : Config) (levels : Mask) (snap : Option PortState) (s : State) :
    (sensingPhase c levels snap s).pins = s.pins := by simp [sensingPhase]
@[simp] theorem sensingPhase_mark (c : Config) (levels : Mask) (snap : Option PortState) (s : State) :
    (sensingPhase c levels snap s).mark = s.mark := by simp [sensingPhase]
@[simp] theorem sensingPhase_gpio (c : Config) (levels : Mask) (snap : Option PortState) (s : State) :
    (sensingPhase c levels snap s).gpio = s.gpio := by simp [sensingPhase]
@[simp] theorem sensingPhase_calls (c : Config) (levels : Mask) (snap : Option PortState) (s : State) :
    (sensingPhase c levels snap s).calls = s.calls := by simp [sensingPhase]

end Sys2Proof.Machine
end

