-- ==== Sys2Proof/Laws/Debounce.lean ====
section
/-! SUPPORT. SAMPLE, ROTARY and the sampling phase, said once. -/

namespace Sys2Proof.Machine

open Sys2Proof

/-- Every sample leaves the pin's two raw levels equal to the sample (R171). -/
theorem samplePin_raws (t : U32) (pressed raw : Bool) (p : InputPin) :
    (samplePin t pressed raw p).1.currentRaw = raw ∧ (samplePin t pressed raw p).1.previousRaw = raw := by
  by_cases h : raw = p.previousRaw
  · subst h
    simp only [samplePin, autoRepeat, if_true]
    repeat' split
    all_goals exact ⟨rfl, rfl⟩
  · simp [samplePin, h]

/-- A sample that changes the level starts a run and fires nothing (R172). -/
theorem samplePin_change (t : U32) (pressed raw : Bool) (p : InputPin) (h : raw ≠ p.previousRaw) :
    samplePin t pressed raw p = (⟨raw, raw, 0, 0⟩, none) := by simp [samplePin, h]

@[simp] theorem sampleButton_cfg (c : Config) (i : Nat) (raw : Bool) (s : State) :
    (sampleButton c i raw s).cfg = s.cfg := by simp [sampleButton]
@[simp] theorem sampleButton_lines (c : Config) (i : Nat) (raw : Bool) (s : State) :
    (sampleButton c i raw s).lines = s.lines := by simp [sampleButton]
@[simp] theorem sampleButton_pullDataLow (c : Config) (i : Nat) (raw : Bool) (s : State) :
    (sampleButton c i raw s).pullDataLow = s.pullDataLow := by simp [sampleButton]
@[simp] theorem sampleButton_lastApplied (c : Config) (i : Nat) (raw : Bool) (s : State) :
    (sampleButton c i raw s).lastApplied = s.lastApplied := by simp [sampleButton]
@[simp] theorem sampleButton_fed (c : Config) (i : Nat) (raw : Bool) (s : State) :
    (sampleButton c i raw s).fed = s.fed := by simp [sampleButton]
@[simp] theorem sampleButton_resetAsserted (c : Config) (i : Nat) (raw : Bool) (s : State) :
    (sampleButton c i raw s).resetAsserted = s.resetAsserted := by simp [sampleButton]
@[simp] theorem sampleButton_mark (c : Config) (i : Nat) (raw : Bool) (s : State) :
    (sampleButton c i raw s).mark = s.mark := by simp [sampleButton]
@[simp] theorem sampleButton_gpio (c : Config) (i : Nat) (raw : Bool) (s : State) :
    (sampleButton c i raw s).gpio = s.gpio := by simp [sampleButton]
@[simp] theorem sampleButton_calls (c : Config) (i : Nat) (raw : Bool) (s : State) :
    (sampleButton c i raw s).calls = s.calls := by simp [sampleButton]
@[simp] theorem sampleButton_hw (c : Config) (i : Nat) (raw : Bool) (s : State) :
    (sampleButton c i raw s).out.hw = s.out.hw := by
  simp [sampleButton]
theorem sampleButton_pins (c : Config) (i : Nat) (raw : Bool) (s : State) :
    (sampleButton c i raw s).pins = s.pins.set i (samplePin (threshold c i) c.pressedLevel raw (s.pin c i)).1 := by
  simp [sampleButton]
theorem sampleButton_events (c : Config) (i : Nat) (raw : Bool) (s : State) :
    (sampleButton c i raw s).out.events = s.out.events ++
      ((samplePin (threshold c i) c.pressedLevel raw (s.pin c i)).2.map (Event.button i)).toList := by
  cases h : (samplePin (threshold c i) c.pressedLevel raw (s.pin c i)).2 <;>
    simp [sampleButton, h, State.emitButton]

@[simp] theorem rotaryPair_cfg (c : Config) (j : Nat) (r : RotaryPair) (p : Bool) (s : State) :
    (rotaryPair c j r p s).cfg = s.cfg := by
  unfold rotaryPair; split <;> simp
@[simp] theorem rotaryPair_lines (c : Config) (j : Nat) (r : RotaryPair) (p : Bool) (s : State) :
    (rotaryPair c j r p s).lines = s.lines := by
  unfold rotaryPair; split <;> simp
@[simp] theorem rotaryPair_pullDataLow (c : Config) (j : Nat) (r : RotaryPair) (p : Bool) (s : State) :
    (rotaryPair c j r p s).pullDataLow = s.pullDataLow := by
  unfold rotaryPair; split <;> simp
@[simp] theorem rotaryPair_lastApplied (c : Config) (j : Nat) (r : RotaryPair) (p : Bool) (s : State) :
    (rotaryPair c j r p s).lastApplied = s.lastApplied := by
  unfold rotaryPair; split <;> simp
@[simp] theorem rotaryPair_fed (c : Config) (j : Nat) (r : RotaryPair) (p : Bool) (s : State) :
    (rotaryPair c j r p s).fed = s.fed := by
  unfold rotaryPair; split <;> simp
@[simp] theorem rotaryPair_resetAsserted (c : Config) (j : Nat) (r : RotaryPair) (p : Bool) (s : State) :
    (rotaryPair c j r p s).resetAsserted = s.resetAsserted := by
  unfold rotaryPair; split <;> simp
@[simp] theorem rotaryPair_pins (c : Config) (j : Nat) (r : RotaryPair) (p : Bool) (s : State) :
    (rotaryPair c j r p s).pins = s.pins := by
  unfold rotaryPair; split <;> simp
@[simp] theorem rotaryPair_mark (c : Config) (j : Nat) (r : RotaryPair) (p : Bool) (s : State) :
    (rotaryPair c j r p s).mark = s.mark := by
  unfold rotaryPair; split <;> simp
@[simp] theorem rotaryPair_gpio (c : Config) (j : Nat) (r : RotaryPair) (p : Bool) (s : State) :
    (rotaryPair c j r p s).gpio = s.gpio := by
  unfold rotaryPair; split <;> simp
@[simp] theorem rotaryPair_calls (c : Config) (j : Nat) (r : RotaryPair) (p : Bool) (s : State) :
    (rotaryPair c j r p s).calls = s.calls := by
  unfold rotaryPair; split <;> simp
@[simp] theorem rotaryPair_hw (c : Config) (j : Nat) (r : RotaryPair) (p : Bool) (s : State) :
    (rotaryPair c j r p s).out.hw = s.out.hw := by unfold rotaryPair; split <;> simp
theorem rotaryPair_events (c : Config) (j : Nat) (r : RotaryPair) (p : Bool) (s : State) :
    (rotaryPair c j r p s).out.events = s.out.events ++ if p then [.rotary j (rotaryDirection c r s)] else [] := by
  unfold rotaryPair; split <;> simp

@[simp] theorem sampleAll_cfg (c : Config) (levels : Mask) (s : State) : (sampleAll c levels s).cfg = s.cfg := by
  unfold sampleAll
  induction List.range (nButtons c) generalizing s with
  | nil => rfl
  | cons i is ih => simp [ih]
@[simp] theorem sampleAll_lines (c : Config) (levels : Mask) (s : State) : (sampleAll c levels s).lines = s.lines := by
  unfold sampleAll
  induction List.range (nButtons c) generalizing s with
  | nil => rfl
  | cons i is ih => simp [ih]
@[simp] theorem sampleAll_pullDataLow (c : Config) (levels : Mask) (s : State) : (sampleAll c levels s).pullDataLow = s.pullDataLow := by
  unfold sampleAll
  induction List.range (nButtons c) generalizing s with
  | nil => rfl
  | cons i is ih => simp [ih]
@[simp] theorem sampleAll_lastApplied (c : Config) (levels : Mask) (s : State) : (sampleAll c levels s).lastApplied = s.lastApplied := by
  unfold sampleAll
  induction List.range (nButtons c) generalizing s with
  | nil => rfl
  | cons i is ih => simp [ih]
@[simp] theorem sampleAll_fed (c : Config) (levels : Mask) (s : State) : (sampleAll c levels s).fed = s.fed := by
  unfold sampleAll
  induction List.range (nButtons c) generalizing s with
  | nil => rfl
  | cons i is ih => simp [ih]
@[simp] theorem sampleAll_resetAsserted (c : Config) (levels : Mask) (s : State) : (sampleAll c levels s).resetAsserted = s.resetAsserted := by
  unfold sampleAll
  induction List.range (nButtons c) generalizing s with
  | nil => rfl
  | cons i is ih => simp [ih]
@[simp] theorem sampleAll_mark (c : Config) (levels : Mask) (s : State) : (sampleAll c levels s).mark = s.mark := by
  unfold sampleAll
  induction List.range (nButtons c) generalizing s with
  | nil => rfl
  | cons i is ih => simp [ih]
@[simp] theorem sampleAll_gpio (c : Config) (levels : Mask) (s : State) : (sampleAll c levels s).gpio = s.gpio := by
  unfold sampleAll
  induction List.range (nButtons c) generalizing s with
  | nil => rfl
  | cons i is ih => simp [ih]
@[simp] theorem sampleAll_calls (c : Config) (levels : Mask) (s : State) : (sampleAll c levels s).calls = s.calls := by
  unfold sampleAll
  induction List.range (nButtons c) generalizing s with
  | nil => rfl
  | cons i is ih => simp [ih]
@[simp] theorem rotaryOf_cfg (c : Config) (s : State) (j : Nat) : (rotaryOf c s j).cfg = s.cfg := by
  unfold rotaryOf; split <;> simp
@[simp] theorem rotaryAll_cfg (c : Config) (s : State) : (rotaryAll c s).cfg = s.cfg := by
  unfold rotaryAll
  induction List.range c.rotaryPairs.length generalizing s with
  | nil => rfl
  | cons j js ih => simp [ih]
@[simp] theorem rotaryOf_lines (c : Config) (s : State) (j : Nat) : (rotaryOf c s j).lines = s.lines := by
  unfold rotaryOf; split <;> simp
@[simp] theorem rotaryAll_lines (c : Config) (s : State) : (rotaryAll c s).lines = s.lines := by
  unfold rotaryAll
  induction List.range c.rotaryPairs.length generalizing s with
  | nil => rfl
  | cons j js ih => simp [ih]
@[simp] theorem rotaryOf_pullDataLow (c : Config) (s : State) (j : Nat) : (rotaryOf c s j).pullDataLow = s.pullDataLow := by
  unfold rotaryOf; split <;> simp
@[simp] theorem rotaryAll_pullDataLow (c : Config) (s : State) : (rotaryAll c s).pullDataLow = s.pullDataLow := by
  unfold rotaryAll
  induction List.range c.rotaryPairs.length generalizing s with
  | nil => rfl
  | cons j js ih => simp [ih]
@[simp] theorem rotaryOf_lastApplied (c : Config) (s : State) (j : Nat) : (rotaryOf c s j).lastApplied = s.lastApplied := by
  unfold rotaryOf; split <;> simp
@[simp] theorem rotaryAll_lastApplied (c : Config) (s : State) : (rotaryAll c s).lastApplied = s.lastApplied := by
  unfold rotaryAll
  induction List.range c.rotaryPairs.length generalizing s with
  | nil => rfl
  | cons j js ih => simp [ih]
@[simp] theorem rotaryOf_fed (c : Config) (s : State) (j : Nat) : (rotaryOf c s j).fed = s.fed := by
  unfold rotaryOf; split <;> simp
@[simp] theorem rotaryAll_fed (c : Config) (s : State) : (rotaryAll c s).fed = s.fed := by
  unfold rotaryAll
  induction List.range c.rotaryPairs.length generalizing s with
  | nil => rfl
  | cons j js ih => simp [ih]
@[simp] theorem rotaryOf_resetAsserted (c : Config) (s : State) (j : Nat) : (rotaryOf c s j).resetAsserted = s.resetAsserted := by
  unfold rotaryOf; split <;> simp
@[simp] theorem rotaryAll_resetAsserted (c : Config) (s : State) : (rotaryAll c s).resetAsserted = s.resetAsserted := by
  unfold rotaryAll
  induction List.range c.rotaryPairs.length generalizing s with
  | nil => rfl
  | cons j js ih => simp [ih]
@[simp] theorem rotaryOf_pins (c : Config) (s : State) (j : Nat) : (rotaryOf c s j).pins = s.pins := by
  unfold rotaryOf; split <;> simp
@[simp] theorem rotaryAll_pins (c : Config) (s : State) : (rotaryAll c s).pins = s.pins := by
  unfold rotaryAll
  induction List.range c.rotaryPairs.length generalizing s with
  | nil => rfl
  | cons j js ih => simp [ih]
@[simp] theorem rotaryOf_mark (c : Config) (s : State) (j : Nat) : (rotaryOf c s j).mark = s.mark := by
  unfold rotaryOf; split <;> simp
@[simp] theorem rotaryAll_mark (c : Config) (s : State) : (rotaryAll c s).mark = s.mark := by
  unfold rotaryAll
  induction List.range c.rotaryPairs.length generalizing s with
  | nil => rfl
  | cons j js ih => simp [ih]
@[simp] theorem rotaryOf_gpio (c : Config) (s : State) (j : Nat) : (rotaryOf c s j).gpio = s.gpio := by
  unfold rotaryOf; split <;> simp
@[simp] theorem rotaryAll_gpio (c : Config) (s : State) : (rotaryAll c s).gpio = s.gpio := by
  unfold rotaryAll
  induction List.range c.rotaryPairs.length generalizing s with
  | nil => rfl
  | cons j js ih => simp [ih]
@[simp] theorem rotaryOf_calls (c : Config) (s : State) (j : Nat) : (rotaryOf c s j).calls = s.calls := by
  unfold rotaryOf; split <;> simp
@[simp] theorem rotaryAll_calls (c : Config) (s : State) : (rotaryAll c s).calls = s.calls := by
  unfold rotaryAll
  induction List.range c.rotaryPairs.length generalizing s with
  | nil => rfl
  | cons j js ih => simp [ih]
@[simp] theorem samplingPhase_cfg (c : Config) (levels : Mask) (s : State) :
    (samplingPhase c levels s).cfg = s.cfg := by
  simp [samplingPhase]
@[simp] theorem samplingPhase_lines (c : Config) (levels : Mask) (s : State) :
    (samplingPhase c levels s).lines = s.lines := by
  simp [samplingPhase]
@[simp] theorem samplingPhase_pullDataLow (c : Config) (levels : Mask) (s : State) :
    (samplingPhase c levels s).pullDataLow = s.pullDataLow := by
  simp [samplingPhase]
@[simp] theorem samplingPhase_lastApplied (c : Config) (levels : Mask) (s : State) :
    (samplingPhase c levels s).lastApplied = s.lastApplied := by
  simp [samplingPhase]
@[simp] theorem samplingPhase_fed (c : Config) (levels : Mask) (s : State) :
    (samplingPhase c levels s).fed = s.fed := by
  simp [samplingPhase]
@[simp] theorem samplingPhase_resetAsserted (c : Config) (levels : Mask) (s : State) :
    (samplingPhase c levels s).resetAsserted = s.resetAsserted := by
  simp [samplingPhase]
@[simp] theorem samplingPhase_mark (c : Config) (levels : Mask) (s : State) :
    (samplingPhase c levels s).mark = s.mark := by
  simp [samplingPhase]
@[simp] theorem samplingPhase_gpio (c : Config) (levels : Mask) (s : State) :
    (samplingPhase c levels s).gpio = s.gpio := by
  simp [samplingPhase]
@[simp] theorem samplingPhase_calls (c : Config) (levels : Mask) (s : State) :
    (samplingPhase c levels s).calls = s.calls := by
  simp [samplingPhase]
@[simp] theorem samplingPhase_pins (c : Config) (levels : Mask) (s : State) :
    (samplingPhase c levels s).pins = (sampleAll c levels s).pins := by simp [samplingPhase]
@[simp] theorem sampleAll_hw (c : Config) (levels : Mask) (s : State) :
    (sampleAll c levels s).out.hw = s.out.hw := by
  unfold sampleAll
  induction List.range (nButtons c) generalizing s with
  | nil => rfl
  | cons i is ih => simp [ih]
@[simp] theorem rotaryAll_hw (c : Config) (s : State) : (rotaryAll c s).out.hw = s.out.hw := by
  unfold rotaryAll
  induction List.range c.rotaryPairs.length generalizing s with
  | nil => rfl
  | cons j js ih =>
    simp only [List.foldl_cons, ih]
    unfold rotaryOf
    split <;> simp
@[simp] theorem samplingPhase_hw (c : Config) (levels : Mask) (s : State) :
    (samplingPhase c levels s).out.hw = s.out.hw := by simp [samplingPhase]

end Sys2Proof.Machine
end

