-- ==== Sys2Proof/Laws/OutputDriver.lean ====
section
/-! SUPPORT. REFRESH, said once: its masks, and what its writes leave. -/

namespace Sys2Proof.Machine

open Sys2Proof

@[simp] theorem drive_set (m : OutMasks) (p i : Nat) (v : Bool) :
    (m.drive p v).set.testBit i = (m.set.testBit i || (v && decide (p = i))) := by
  cases v <;> simp [OutMasks.drive, Nat.testBit_or]
@[simp] theorem drive_clear (m : OutMasks) (p i : Nat) (v : Bool) :
    (m.drive p v).clear.testBit i = (m.clear.testBit i || (!v && decide (p = i))) := by
  cases v <;> simp [OutMasks.drive, Nat.testBit_or]

@[simp] theorem refreshFunctions_cfg (c : Config) (d k : Bool) (s : State) :
    (refreshFunctions c d k s).cfg = s.cfg := by
  unfold refreshFunctions; split <;> simp
@[simp] theorem refreshFunctions_lines (c : Config) (d k : Bool) (s : State) :
    (refreshFunctions c d k s).lines = s.lines := by
  unfold refreshFunctions; split <;> simp
@[simp] theorem refreshFunctions_pullDataLow (c : Config) (d k : Bool) (s : State) :
    (refreshFunctions c d k s).pullDataLow = s.pullDataLow := by
  unfold refreshFunctions; split <;> simp
@[simp] theorem refreshFunctions_lastApplied (c : Config) (d k : Bool) (s : State) :
    (refreshFunctions c d k s).lastApplied = s.lastApplied := by
  unfold refreshFunctions; split <;> simp
@[simp] theorem refreshFunctions_fed (c : Config) (d k : Bool) (s : State) :
    (refreshFunctions c d k s).fed = s.fed := by
  unfold refreshFunctions; split <;> simp
@[simp] theorem refreshFunctions_resetAsserted (c : Config) (d k : Bool) (s : State) :
    (refreshFunctions c d k s).resetAsserted = s.resetAsserted := by
  unfold refreshFunctions; split <;> simp
@[simp] theorem refreshFunctions_pins (c : Config) (d k : Bool) (s : State) :
    (refreshFunctions c d k s).pins = s.pins := by
  unfold refreshFunctions; split <;> simp
@[simp] theorem refreshFunctions_mark (c : Config) (d k : Bool) (s : State) :
    (refreshFunctions c d k s).mark = s.mark := by
  unfold refreshFunctions; split <;> simp
@[simp] theorem refreshFunctions_calls (c : Config) (d k : Bool) (s : State) :
    (refreshFunctions c d k s).calls = s.calls := by
  unfold refreshFunctions; split <;> simp
@[simp] theorem refreshPins_cfg (c : Config) (d k led sound : Bool) (s : State) :
    (refreshPins c d k led sound s).cfg = s.cfg := by simp [refreshPins]
@[simp] theorem refreshPins_lines (c : Config) (d k led sound : Bool) (s : State) :
    (refreshPins c d k led sound s).lines = s.lines := by simp [refreshPins]
@[simp] theorem refreshPins_pullDataLow (c : Config) (d k led sound : Bool) (s : State) :
    (refreshPins c d k led sound s).pullDataLow = s.pullDataLow := by simp [refreshPins]
@[simp] theorem refreshPins_lastApplied (c : Config) (d k led sound : Bool) (s : State) :
    (refreshPins c d k led sound s).lastApplied = s.lastApplied := by simp [refreshPins]
@[simp] theorem refreshPins_fed (c : Config) (d k led sound : Bool) (s : State) :
    (refreshPins c d k led sound s).fed = s.fed := by simp [refreshPins]
@[simp] theorem refreshPins_resetAsserted (c : Config) (d k led sound : Bool) (s : State) :
    (refreshPins c d k led sound s).resetAsserted = s.resetAsserted := by simp [refreshPins]
@[simp] theorem refreshPins_pins (c : Config) (d k led sound : Bool) (s : State) :
    (refreshPins c d k led sound s).pins = s.pins := by simp [refreshPins]
@[simp] theorem refreshPins_mark (c : Config) (d k led sound : Bool) (s : State) :
    (refreshPins c d k led sound s).mark = s.mark := by simp [refreshPins]
@[simp] theorem refreshPins_calls (c : Config) (d k led sound : Bool) (s : State) :
    (refreshPins c d k led sound s).calls = s.calls := by simp [refreshPins]
@[simp] theorem refreshPins_events (c : Config) (d k led sound : Bool) (s : State) :
    (refreshPins c d k led sound s).out.events = s.out.events := by
  simp only [refreshPins, refreshFunctions]; split <;> simp
/-- The trace of a Refresh (R155). -/
theorem refreshPins_hw (c : Config) (d k led sound : Bool) (s : State) :
    (refreshPins c d k led sound s).out.hw = s.out.hw ++
      [.writePinsSet (refreshMasks c d k led sound).set, .writePinsClear (refreshMasks c d k led sound).clear] ++
      (if c.splitLines then [] else
        [.writePinFunction c.pinMap.data (pullFunction d), .writePinFunction c.pinMap.clock (pullFunction k)]) := by
  simp only [refreshPins, refreshFunctions]; split <;> simp
/-- The latches a Refresh leaves (R53). -/
theorem refreshPins_latch (c : Config) (d k led sound : Bool) (s : State) (i : Nat) :
    (refreshPins c d k led sound s).gpio.latch.testBit i =
      ((s.gpio.latch.testBit i || (refreshMasks c d k led sound).set.testBit i) &&
        !(refreshMasks c d k led sound).clear.testBit i) := by
  simp only [refreshPins, refreshFunctions]; split <;> simp
/-- The pin functions a Refresh leaves (R152, R153). -/
theorem refreshPins_outputs (c : Config) (d k led sound : Bool) (s : State) (i : Nat) :
    (refreshPins c d k led sound s).gpio.outputs.testBit i =
      if c.splitLines then s.gpio.outputs.testBit i
      else if c.pinMap.clock = i then k else if c.pinMap.data = i then d else s.gpio.outputs.testBit i := by
  simp only [refreshPins, refreshFunctions]
  split
  · simp
  · cases d <;> cases k <;> simp [pullFunction]

end Sys2Proof.Machine
end

