-- ==== Sys2Proof/Laws/Cycle.lean ====
section
/-! SUPPORT. CYCLE's steps, and what an operation that answers a next state can have done. -/

namespace Sys2Proof.Machine

open Sys2Proof

@[simp] theorem decodeIfChanged_cfg (c : Config) (snap : Option PortState) (s : State) :
    (decodeIfChanged c snap s).cfg = s.cfg := by
  unfold decodeIfChanged; repeat' split
  all_goals simp
@[simp] theorem decodeIfChanged_fed (c : Config) (snap : Option PortState) (s : State) :
    (decodeIfChanged c snap s).fed = s.fed := by
  unfold decodeIfChanged; repeat' split
  all_goals simp
@[simp] theorem decodeIfChanged_resetAsserted (c : Config) (snap : Option PortState) (s : State) :
    (decodeIfChanged c snap s).resetAsserted = s.resetAsserted := by
  unfold decodeIfChanged; repeat' split
  all_goals simp
@[simp] theorem decodeIfChanged_pins (c : Config) (snap : Option PortState) (s : State) :
    (decodeIfChanged c snap s).pins = s.pins := by
  unfold decodeIfChanged; repeat' split
  all_goals simp
@[simp] theorem decodeIfChanged_mark (c : Config) (snap : Option PortState) (s : State) :
    (decodeIfChanged c snap s).mark = s.mark := by
  unfold decodeIfChanged; repeat' split
  all_goals simp
@[simp] theorem decodeIfChanged_gpio (c : Config) (snap : Option PortState) (s : State) :
    (decodeIfChanged c snap s).gpio = s.gpio := by
  unfold decodeIfChanged; repeat' split
  all_goals simp
@[simp] theorem decodeIfChanged_out (c : Config) (snap : Option PortState) (s : State) :
    (decodeIfChanged c snap s).out = s.out := by
  unfold decodeIfChanged; repeat' split
  all_goals simp
@[simp] theorem decodeIfChanged_calls (c : Config) (snap : Option PortState) (s : State) :
    (decodeIfChanged c snap s).calls = s.calls := by
  unfold decodeIfChanged; repeat' split
  all_goals simp
@[simp] theorem decodeIfChanged_sensedHigh (c : Config) (snap : Option PortState) (s : State) (l : LineId) :
    (decodeIfChanged c snap s).sensedHigh l = s.sensedHigh l := by
  unfold decodeIfChanged; repeat' split
  all_goals simp
/-- With a snapshot, the last decoded pair is the snapshot afterwards (R193). -/
@[simp] theorem decodeIfChanged_lastApplied (c : Config) (p : PortState) (s : State) :
    (decodeIfChanged c (some p) s).lastApplied = some p := by
  simp only [decodeIfChanged]; split <;> simp_all
@[simp] theorem decodeIfChanged_none (c : Config) (s : State) : decodeIfChanged c none s = s := rfl

@[simp] theorem refreshFromPulls_cfg (c : Config) (led sound : Bool) (s : State) :
    (refreshFromPulls c led sound s).cfg = s.cfg := by
  simp [refreshFromPulls]
@[simp] theorem refreshFromPulls_lines (c : Config) (led sound : Bool) (s : State) :
    (refreshFromPulls c led sound s).lines = s.lines := by
  simp [refreshFromPulls]
@[simp] theorem refreshFromPulls_pullDataLow (c : Config) (led sound : Bool) (s : State) :
    (refreshFromPulls c led sound s).pullDataLow = s.pullDataLow := by
  simp [refreshFromPulls]
@[simp] theorem refreshFromPulls_lastApplied (c : Config) (led sound : Bool) (s : State) :
    (refreshFromPulls c led sound s).lastApplied = s.lastApplied := by
  simp [refreshFromPulls]
@[simp] theorem refreshFromPulls_fed (c : Config) (led sound : Bool) (s : State) :
    (refreshFromPulls c led sound s).fed = s.fed := by
  simp [refreshFromPulls]
@[simp] theorem refreshFromPulls_resetAsserted (c : Config) (led sound : Bool) (s : State) :
    (refreshFromPulls c led sound s).resetAsserted = s.resetAsserted := by
  simp [refreshFromPulls]
@[simp] theorem refreshFromPulls_pins (c : Config) (led sound : Bool) (s : State) :
    (refreshFromPulls c led sound s).pins = s.pins := by
  simp [refreshFromPulls]
@[simp] theorem refreshFromPulls_mark (c : Config) (led sound : Bool) (s : State) :
    (refreshFromPulls c led sound s).mark = s.mark := by
  simp [refreshFromPulls]
@[simp] theorem refreshFromPulls_calls (c : Config) (led sound : Bool) (s : State) :
    (refreshFromPulls c led sound s).calls = s.calls := by
  simp [refreshFromPulls]
@[simp] theorem cycleSteps_cfg (c : Config) (levels : Mask) (snap : Option PortState) (led sound : Bool) (s : State) :
    (cycleSteps c levels snap led sound s).cfg = s.cfg := by
  simp [cycleSteps]
@[simp] theorem cycleSteps_mark (c : Config) (levels : Mask) (snap : Option PortState) (led sound : Bool) (s : State) :
    (cycleSteps c levels snap led sound s).mark = s.mark := by
  simp [cycleSteps]
@[simp] theorem cycleSteps_calls (c : Config) (levels : Mask) (snap : Option PortState) (led sound : Bool) (s : State) :
    (cycleSteps c levels snap led sound s).calls = s.calls := by
  simp [cycleSteps]

/-! What an operation that answers a next state has done: the inversions. -/

theorem execCycle_next {levels : Mask} {snap : Option PortState} {led sound : Bool} {s t : State}
    (h : execCycle levels snap led sound s = .next t) :
    s.mark = none ∧ ∃ c, s.cfg = some c ∧ snapshotMatches c snap = true ∧
      t = cycleSteps c (pinLevels c levels) snap led sound { s with out := .empty } := by
  obtain ⟨hm, c, hc, h⟩ := enter_next h
  split at h
  · exact ⟨hm, c, hc, ‹_›, by injection h with h; exact h.symm⟩
  · exact absurd h (refuse_ne_next _ _ _)

theorem execSense_next {sel : Selector} {raw : Bool} {snap : Option PortState} {s t : State}
    (h : execSense sel raw snap s = .next t) :
    s.mark = none ∧ ∃ c l, s.cfg = some c ∧ LineId.ofSelector sel = some l ∧
      (l = .atn → snapshotMatches c snap = true) ∧
      t = (senseLine c l raw snap { s with out := .empty }).withResult
        (.sensed ((senseLine c l raw snap { s with out := .empty }).sensedHigh l)
          ((senseLine c l raw snap { s with out := .empty }).asserted l)) := by
  obtain ⟨hm, c, hc, h⟩ := enter_next h
  split at h
  · exact absurd h (refuse_ne_next _ _ _)
  · rename_i l hl
    split at h
    · exact absurd h (refuse_ne_next _ _ _)
    · rename_i hs
      refine ⟨hm, c, l, hc, hl, fun ha => ?_, by injection h with h; exact h.symm⟩
      cases hm : snapshotMatches c snap
      · exact absurd ⟨ha, hm⟩ hs
      · rfl

theorem execAtnEdge_next {a : Bool} {snap : Option PortState} {s t : State} (h : execAtnEdge a snap s = .next t) :
    s.mark = none ∧ ∃ c, s.cfg = some c ∧ snapshotMatches c snap = true ∧
      t = atnTransition c a snap { s with out := .empty } := by
  obtain ⟨hm, c, hc, h⟩ := enter_next h
  split at h
  · exact ⟨hm, c, hc, ‹_›, by injection h with h; exact h.symm⟩
  · exact absurd h (refuse_ne_next _ _ _)

theorem execPortOut_next {status dir : Byte} {s t : State} (h : execPortOut status dir s = .next t) :
    s.mark = none ∧ ∃ c, s.cfg = some c ∧ chipAttached c = true ∧
      t = decodePort c status dir { s with out := .empty } := by
  obtain ⟨hm, c, hc, h⟩ := enter_next h
  split at h
  · exact ⟨hm, c, hc, ‹_›, by injection h with h; exact h.symm⟩
  · exact absurd h (refuse_ne_next _ _ _)

theorem execGate_next {o a d : Bool} {s t : State} (h : execGate o a d s = .next t) :
    s.mark = none ∧ ∃ c, s.cfg = some c ∧ t = State.withResult { s with out := .empty } (.gate (gate c o a d)) := by
  obtain ⟨hm, c, hc, h⟩ := enter_next h
  exact ⟨hm, c, hc, by injection h with h; exact h.symm⟩

theorem execRefresh_next {d k led sound : Bool} {s t : State} (h : execRefresh d k led sound s = .next t) :
    s.mark = none ∧ ∃ c, s.cfg = some c ∧
      t = (refreshPins c d k led sound { s with out := .empty }).withResult
        (.masks (refreshMasks c d k led sound).set (refreshMasks c d k led sound).clear) := by
  obtain ⟨hm, c, hc, h⟩ := enter_next h
  exact ⟨hm, c, hc, by injection h with h; exact h.symm⟩

theorem execSample_next {i : Nat} {raw : Bool} {s t : State} (h : execSample i raw s = .next t) :
    s.mark = none ∧ ∃ c, s.cfg = some c ∧ i < nButtons c ∧ t = sampleButton c i raw { s with out := .empty } := by
  obtain ⟨hm, c, hc, h⟩ := enter_next h
  split at h
  · exact ⟨hm, c, hc, ‹_›, by injection h with h; exact h.symm⟩
  · exact absurd h (refuse_ne_next _ _ _)

theorem execRotary_next {j : Nat} {p : Bool} {s t : State} (h : execRotary j p s = .next t) :
    s.mark = none ∧ ∃ c r, s.cfg = some c ∧ c.rotaryPairs[j]? = some r ∧
      t = rotaryPair c j r p { s with out := .empty } := by
  obtain ⟨hm, c, hc, h⟩ := enter_next h
  split at h
  · exact absurd h (refuse_ne_next _ _ _)
  · rename_i r hr
    exact ⟨hm, c, r, hc, hr, by injection h with h; exact h.symm⟩

theorem execReset_next {c : Config} {s t : State} (h : execReset c s = .next t) :
    s.mark = none ∧ configAdmitted c = true ∧ t = resetWith c s := by
  unfold execReset at h
  split at h
  · exact absurd h (refuse_ne_next _ _ _)
  · rename_i hm
    split at h
    · exact ⟨hm, ‹_›, by injection h with h; exact h.symm⟩
    · exact absurd h (refuse_ne_next _ _ _)

theorem execReserved_never_next {op : Byte} {s t : State} : execReserved op s ≠ .next t := by
  intro h
  obtain ⟨-, c, -, h⟩ := enter_next h
  exact absurd h (refuse_ne_next _ _ _)

/-- RESET leaves the state of R38, the GPIO after its writes, and its trace (R220 to R222). -/
theorem resetWith_frame (c : Config) (s : State) :
    let t := resetWith c s
    t.cfg = some c ∧ t.lines = .released ∧ t.pullDataLow = false ∧ t.lastApplied = none ∧
    t.fed = ⟨false, false, false⟩ ∧ t.resetAsserted = false ∧
    t.pins = List.replicate (nButtons c) (InputPin.released c) ∧ t.mark = none ∧ t.calls = s.calls := by
  have hc : ∀ u : State, (chipInit c u).cfg = u.cfg ∧ (chipInit c u).lines = u.lines ∧
      (chipInit c u).pullDataLow = u.pullDataLow ∧ (chipInit c u).lastApplied = u.lastApplied ∧
      (chipInit c u).fed = u.fed ∧ (chipInit c u).resetAsserted = u.resetAsserted ∧
      (chipInit c u).pins = u.pins ∧ (chipInit c u).mark = u.mark ∧ (chipInit c u).calls = u.calls := by
    intro u; unfold chipInit; split <;> simp
  have hi := writePinFunctions_frame .input (initInputs c) (refreshPins c false false false false (s.fresh c))
  have ho := writePinFunctions_frame .output (initOutputs c)
    ((refreshPins c false false false false (s.fresh c)).writePinFunctions .input (initInputs c))
  simp only [resetWith, hardwareInit, hc, ho, hi]
  simp [State.fresh]

/-! The pins of a session (R221, R230). -/

theorem configAdmitted_nodup {c : Config} (h : configAdmitted c = true) :
    if c.splitLines then (allPins c).Nodup else (sharedPins c).Nodup := by
  simp [configAdmitted] at h
  exact h.1.1.1.2

/-- What GpioOk reads of a state. -/
theorem GpioOk_congr {c : Config} {s t : State} (h : t.gpio = s.gpio) (hs : s.GpioOk c) : t.GpioOk c := by
  unfold State.GpioOk at *; rwa [h]

/-- A Refresh keeps the functions RESET gave the pins, and leaves the latches of shared pins clear (R152, R153). -/
theorem refreshPins_gpioOk {c : Config} (ha : configAdmitted c = true) (d k led sound : Bool) {s : State}
    (h : s.GpioOk c) : (refreshPins c d k led sound s).GpioOk c := by
  have hnd := configAdmitted_nodup ha
  obtain ⟨h1, h2, -⟩ := h
  refine ⟨fun p hp => ?_, fun p hp => ?_, fun hs => ?_⟩
  · have := h1 p hp
    rw [refreshPins_outputs]
    cases hs : c.splitLines
    · simp [hs, sharedPins] at hnd
      simp [initOutputs, hs] at hp
      simp
      grind
    · simpa using this
  · have := h2 p hp
    rw [refreshPins_outputs]
    cases hs : c.splitLines
    · simp [hs, sharedPins] at hnd
      simp [initInputs, hs] at hp
      simp
      grind
    · simpa using this
  · simp [refreshPins_latch, refreshMasks, hs, Nat.testBit_or]

/-- The GPIO registers after RESET are those HardwareInit leaves (R221, R222). -/
theorem resetWith_gpio (c : Config) (s : State) : (resetWith c s).gpio = (hardwareInit c (s.fresh c)).gpio := by
  unfold resetWith chipInit; split <;> rfl

/-- RESET gives every pin of an admitted configuration its function (R221). -/
theorem resetWith_gpioOk {c : Config} (ha : configAdmitted c = true) (s : State) : (resetWith c s).GpioOk c := by
  have hnd := configAdmitted_nodup ha
  refine GpioOk_congr (resetWith_gpio c s) ⟨fun p hp => ?_, fun p hp => ?_, fun hs => ?_⟩
  · simp only [hardwareInit]
    rw [writePinFunctions_outputs]
    simp [hp]
  · have hq : p ∉ initOutputs c := by
      intro hq
      cases hs : c.splitLines
      · simp [hs, sharedPins] at hnd
        simp [initInputs, hs] at hp
        simp [initOutputs, hs] at hq
        grind
      · simp [hs, sharedPins, allPins] at hnd
        simp [initInputs, hs] at hp
        simp [initOutputs, hs] at hq
        grind
    simp only [hardwareInit]
    rw [writePinFunctions_outputs, writePinFunctions_outputs]
    simp [hp, hq]
  · simp only [hardwareInit]
    rw [(writePinFunctions_frame .output _ _).2.2.2.2.2.2.2.2.2.1,
      (writePinFunctions_frame .input _ _).2.2.2.2.2.2.2.2.2.1]
    simp [refreshPins_latch, refreshMasks, hs, Nat.testBit_or]

end Sys2Proof.Machine
end

