-- ==== Sys2Proof/Laws/Decode.lean ====
section
/-! SUPPORT. One lemma per reader: it takes back what the encoder of its field laid down; and the two tests for a
reserved op byte agree. -/

namespace Sys2Proof

/-- The decoder's test for a reserved op byte is that of `Instr.wf` (R81). -/
theorem reservesOp_iff : ∀ op : Byte,
    Instr.reservesOp op = true ↔ (opSelector op ≠ 0 ∧ opNumber op ≠ 2) ∨ 9 ≤ (opNumber op).toNat := by decide

/-- Whatever bytes follow a reserved op byte, they are dropped unread (R201). -/
theorem readOperands_reserved {op : Byte} (h : Instr.reservesOp op = true) (bytes : List Byte) :
    readOperands op bytes = some (.reserved op, []) := by
  unfold readOperands
  by_cases hs : opSelector op ≠ 0 ∧ opNumber op ≠ 2
  · rw [if_pos hs]
  · have hn := ((reservesOp_iff op).1 h).resolve_left hs
    rw [if_neg hs]
    split <;> first | omega | rfl

@[simp] theorem readByte_cons (b : Byte) (rest : List Byte) : readByte (b :: rest) = some (b, rest) := rfl

@[simp] theorem readBool_boolByte (b : Bool) (rest : List Byte) :
    readBool (boolByte b :: rest) = some (b, rest) := by cases b <;> rfl

theorem natBytes_ne_nil (fuel n : Nat) : natBytes fuel n ≠ [] := by
  cases fuel <;> simp only [natBytes] <;> (try split) <;> simp

/-- With fuel enough, `natBytes` is read back whole. -/
theorem readNat_natBytes (fuel n : Nat) (h : n ≤ fuel) (rest : List Byte) :
    readNat (natBytes fuel n ++ rest) = some (n, rest) := by
  induction fuel generalizing n with
  | zero =>
    obtain rfl : n = 0 := by omega
    rfl
  | succ fuel ih =>
    by_cases hn : n < 128
    · have : n % 256 = n := Nat.mod_eq_of_lt (by omega)
      simp [natBytes, hn, readNat, this]
    · have hb : (BitVec.ofNat 8 (n % 128 + 128)).toNat = n % 128 + 128 := by
        simp only [BitVec.toNat_ofNat]; omega
      have hr : readNat (natBytes fuel (n / 128) ++ rest) = some (n / 128, rest) := ih (n / 128) (by omega)
      have h0 : n / 128 ≠ 0 := by omega
      simp only [natBytes, hn, if_false, List.cons_append, readNat, hb, hr, h0]
      rw [if_neg (by omega)]
      simp only [Option.some.injEq, Prod.mk.injEq, and_true]
      omega

@[simp] theorem readNat_encodeNat (n : Nat) (rest : List Byte) :
    readNat (encodeNat n ++ rest) = some (n, rest) := readNat_natBytes n n (Nat.le_refl n) rest

@[simp] theorem readU32_encodeNat (v : U32) (rest : List Byte) :
    readU32 (encodeNat v.toNat ++ rest) = some (v, rest) := by
  have h : v.toNat < 2 ^ 32 := v.isLt
  simp [readU32]
  omega

@[simp] theorem readSnap_encodeSnap (snap : Option PortState) (rest : List Byte) :
    readSnap (encodeSnap snap ++ rest) = some (snap, rest) := by
  cases snap
  · rfl
  · rfl

theorem readMany_flatMap {α : Type} (r : Reader α) (enc : α → List Byte)
    (h : ∀ x rest, r (enc x ++ rest) = some (x, rest)) (xs : List α) (rest : List Byte) :
    readMany r xs.length (xs.flatMap enc ++ rest) = some (xs, rest) := by
  induction xs with
  | nil => rfl
  | cons x xs ih => simp [readMany, h, ih]

theorem readList_encodeList {α : Type} (r : Reader α) (enc : α → List Byte)
    (h : ∀ x rest, r (enc x ++ rest) = some (x, rest)) (xs : List α) (rest : List Byte) :
    readList r (encodeList enc xs ++ rest) = some (xs, rest) := by
  simp [readList, encodeList, readMany_flatMap r enc h]

@[simp] theorem readButton_encodeButton (b : Button) (rest : List Byte) :
    readButton (encodeButton b ++ rest) = some (b, rest) := by simp [readButton, encodeButton]

@[simp] theorem readRotaryPair_encodeRotaryPair (r : RotaryPair) (rest : List Byte) :
    readRotaryPair (encodeRotaryPair r ++ rest) = some (r, rest) := by
  obtain ⟨a, b, k⟩ := r
  cases k <;> simp [readRotaryPair, encodeRotaryPair]

@[simp] theorem readChipKind_encodeChipKind (k : ChipKind) (rest : List Byte) :
    readChipKind (encodeChipKind k :: rest) = some (k, rest) := by cases k <;> rfl

@[simp] theorem readPinMap_encodePinMap (p : PinMap) (rest : List Byte) :
    readPinMap (encodePinMap p ++ rest) = some (p, rest) := by
  simp only [readPinMap, encodePinMap, List.append_assoc, readNat_encodeNat, Option.bind_eq_bind, Option.bind_some,
    Option.pure_def]

@[simp] theorem readPortMap_encodePortMap (p : PortMap) (rest : List Byte) :
    readPortMap (encodePortMap p ++ rest) = some (p, rest) := by
  simp only [readPortMap, encodePortMap, List.append_assoc, readNat_encodeNat, Option.bind_eq_bind, Option.bind_some,
    Option.pure_def]

theorem readConfigFields_encode (c : Config) (rest : List Byte) :
    readConfigFields (encodeConfigFields c ++ rest) = some (c, rest) := by
  simp only [readConfigFields, encodeConfigFields, List.append_assoc, List.cons_append, List.nil_append,
    readBool_boolByte, readChipKind_encodeChipKind, readPinMap_encodePinMap, readPortMap_encodePortMap,
    readNat_encodeNat, readList_encodeList readButton encodeButton readButton_encodeButton,
    readList_encodeList readRotaryPair encodeRotaryPair readRotaryPair_encodeRotaryPair, Option.bind_eq_bind,
    Option.bind_some, Option.pure_def]

end Sys2Proof
end

