-- ==== Sys2Proof/Laws/PerInstr.lean ====
section
/-! SUPPORT. Families of statements about every instruction, one lemma per constructor of Instr. `OpByte`: the op byte
of an instruction is the one R79 gives its operation. -/

/-- The operation number and the selector of the op byte (R79). -/
def Sys2Proof.Laws.OpByte.Statement (i : Sys2Proof.Instr) : Prop :=
  (Sys2Proof.encode i).head? = some i.opByte ∧
  match i with
  | .reset _ => Sys2Proof.opNumber i.opByte = 0 ∧ Sys2Proof.opSelector i.opByte = 0
  | .cycle _ _ _ _ => Sys2Proof.opNumber i.opByte = 1 ∧ Sys2Proof.opSelector i.opByte = 0
  | .sense line _ _ => Sys2Proof.opNumber i.opByte = 2 ∧ Sys2Proof.opSelector i.opByte = line
  | .atnEdge _ _ => Sys2Proof.opNumber i.opByte = 3 ∧ Sys2Proof.opSelector i.opByte = 0
  | .portOut _ _ => Sys2Proof.opNumber i.opByte = 4 ∧ Sys2Proof.opSelector i.opByte = 0
  | .gate _ _ _ => Sys2Proof.opNumber i.opByte = 5 ∧ Sys2Proof.opSelector i.opByte = 0
  | .refresh _ _ _ _ => Sys2Proof.opNumber i.opByte = 6 ∧ Sys2Proof.opSelector i.opByte = 0
  | .sample _ _ => Sys2Proof.opNumber i.opByte = 7 ∧ Sys2Proof.opSelector i.opByte = 0
  | .rotary _ _ => Sys2Proof.opNumber i.opByte = 8 ∧ Sys2Proof.opSelector i.opByte = 0
  | .reserved op => i.opByte = op

theorem Sys2Proof.Laws.OpByte.reset (cfg : Sys2Proof.Config) :
    Sys2Proof.Laws.OpByte.Statement (.reset cfg) := ⟨rfl, by
  simp only [Sys2Proof.Instr.opByte]; decide⟩
theorem Sys2Proof.Laws.OpByte.cycle (levels : Sys2Proof.Mask) (snap : Option Sys2Proof.PortState)
    (led sound : Bool) : Sys2Proof.Laws.OpByte.Statement (.cycle levels snap led sound) := ⟨rfl, by
  simp only [Sys2Proof.Instr.opByte]; decide⟩
theorem Sys2Proof.Laws.OpByte.sense (line : Sys2Proof.Selector) (raw : Bool) (snap : Option Sys2Proof.PortState) :
    Sys2Proof.Laws.OpByte.Statement (.sense line raw snap) :=
  ⟨rfl, by simp only [Sys2Proof.Instr.opByte]; revert line; decide⟩
theorem Sys2Proof.Laws.OpByte.atnEdge (atnAsserted : Bool) (snap : Option Sys2Proof.PortState) :
    Sys2Proof.Laws.OpByte.Statement (.atnEdge atnAsserted snap) := ⟨rfl, by
  simp only [Sys2Proof.Instr.opByte]; decide⟩
theorem Sys2Proof.Laws.OpByte.portOut (status dir : Sys2Proof.Byte) :
    Sys2Proof.Laws.OpByte.Statement (.portOut status dir) := ⟨rfl, by
  simp only [Sys2Proof.Instr.opByte]; decide⟩
theorem Sys2Proof.Laws.OpByte.gate (atnaOut atnAsserted dirAtna : Bool) :
    Sys2Proof.Laws.OpByte.Statement (.gate atnaOut atnAsserted dirAtna) := ⟨rfl, by
  simp only [Sys2Proof.Instr.opByte]; decide⟩
theorem Sys2Proof.Laws.OpByte.refresh (dataLow clockLow led sound : Bool) :
    Sys2Proof.Laws.OpByte.Statement (.refresh dataLow clockLow led sound) := ⟨rfl, by
  simp only [Sys2Proof.Instr.opByte]; decide⟩
theorem Sys2Proof.Laws.OpByte.sample (i : Nat) (raw : Bool) :
    Sys2Proof.Laws.OpByte.Statement (.sample i raw) := ⟨rfl, by
  simp only [Sys2Proof.Instr.opByte]; decide⟩
theorem Sys2Proof.Laws.OpByte.rotary (j : Nat) (primaryPressed : Bool) :
    Sys2Proof.Laws.OpByte.Statement (.rotary j primaryPressed) := ⟨rfl, by
  simp only [Sys2Proof.Instr.opByte]; decide⟩
theorem Sys2Proof.Laws.OpByte.reserved (op : Sys2Proof.Byte) :
    Sys2Proof.Laws.OpByte.Statement (.reserved op) := ⟨rfl, rfl⟩
end

