-- ==== Sys2Proof/Tests/Slice0.lean ====
section
/-! SUPPORT. Tests. Expected values are those of spec/95_test_vectors.md (its vector is named at each test) or are
written out from the rule named there; then, for every statement with hypotheses, a witness that meets them. -/

open Sys2Proof Sys2Proof.Machine Sys2Proof.Statements

namespace Sys2Proof.Tests

/-! Helpers: configurations, small states, and what an outcome holds. -/

/-- EX_B, EX_B_SH and EX_N of spec/95_test_vectors.md; EX_A is `Config.boot` (its rotary pair aside). -/
def exB : Config := { Config.boot with chipKind := .variantB }
def exShared : Config := { exB with splitLines := false, invertOutputs := true }
def exN : Config := { Config.boot with chipKind := .absent, buttons := [⟨9, 2⟩, ⟨10, 2⟩] }

/-- `R0(cfg)` of spec/95_test_vectors.md, for a configuration of two buttons. -/
def r0 (c : Config) : State := { State.reset with cfg := some c, out := .empty }

def pulled (s : State) (gatePull drive chipData chipClock : Bool) : State :=
  { s with
    pullDataLow := gatePull
    lines := { s.lines with
      data := ⟨s.lines.data.sensedHigh, drive, chipData⟩
      clock := { s.lines.clock with pulledLowByChipOutput := chipClock } } }

def atnLow (s : State) : State := { s with lines := { s.lines with atn := { s.lines.atn with sensedHigh := false } } }

def withPin (s : State) (p : InputPin) : State := { s with pins := s.pins.set 0 p }

def yields (o : StepOutcome) (f : State → Bool) : Bool :=
  match o with
  | .next t => f t
  | _ => false

def refusedBy (o : StepOutcome) (r : Refusal) : Bool :=
  match o with
  | .refused r' => decide (r' = r)
  | _ => false

/-! WellFormed: the one check, from both sides of its boundary (R81). -/

theorem test_wf_refuses_reset_op : (Instr.reserved 0x00).wf = false := by decide
theorem test_wf_refuses_sense_op : (Instr.reserved 0x2F).wf = false := by decide
theorem test_wf_refuses_rotary_op : (Instr.reserved 0x80).wf = false := by decide
theorem test_wf_admits_reserved_number : (Instr.reserved 0x90).wf = true := by decide
theorem test_wf_admits_illegal_selector : (Instr.reserved 0x51).wf = true := by decide

/-! The check of RESET: one ill-formed configuration for each check of R39. -/

theorem test_admit_examples :
    configAdmitted Config.boot = true ∧ configAdmitted exB = true ∧ configAdmitted exShared = true ∧
    configAdmitted exN = true := by decide
theorem test_refuse_threshold_zero : configAdmitted { exB with buttons := [⟨9, 0⟩, ⟨10, 3⟩] } = false := by decide
theorem test_refuse_pin_width : configAdmitted { exB with pinWidth := 10 } = false := by decide
theorem test_admit_pin_width : configAdmitted { exB with pinWidth := 11 } = true := by decide
theorem test_refuse_pin_clash : configAdmitted { exB with buttons := [⟨9, 3⟩, ⟨4, 3⟩] } = false := by decide
theorem test_refuse_split_out_clash :
    configAdmitted { exB with pinMap := { PinMap.ex with outData := 1 } } = false := by decide
theorem test_admit_shared_out_unused :
    configAdmitted { exShared with pinMap := { PinMap.ex with outData := 1 } } = true := by decide
theorem test_refuse_port_bit : configAdmitted { exB with portMap := { PortMap.default with atnIn := 8 } } = false := by
  decide
theorem test_refuse_port_clash : configAdmitted { exB with portMap := { PortMap.default with atnIn := 4 } } = false := by
  decide
theorem test_refuse_rotary_self : configAdmitted { exB with rotaryPairs := [⟨1, 1, .upDown⟩] } = false := by decide
theorem test_refuse_rotary_index : configAdmitted { exB with rotaryPairs := [⟨0, 2, .upDown⟩] } = false := by decide

/-! Decoding: op bytes written out from R79 (the records' layout is notes/assumptions/1.md). -/

theorem test_decode_reset : decode [0b00000000, 0] = .ok (.reset Config.boot) := by decide
theorem test_decode_reset_explicit : decode (encode (.reset exN)) = .ok (.reset exN) := by decide
theorem test_decode_cycle :
    decode [0b00010000, 0x9F, 0x0C, 0, 0x1A, 0x10, 1, 0] = .ok (.cycle 0x61F (some ⟨0x1A, 0x10⟩) true false) := by decide
theorem test_decode_sense_reset : decode [0b00100100, 1, 1] = .ok (.sense 4 true none) := by decide
theorem test_decode_sense_atn : decode [0b00100000, 0, 0, 0x1A, 0] = .ok (.sense 0 false (some ⟨0x1A, 0⟩)) := by decide
theorem test_decode_atnEdge : decode [0b00110000, 1, 0, 0x0A, 0x10] = .ok (.atnEdge true (some ⟨0x0A, 0x10⟩)) := by decide
theorem test_decode_portOut : decode [0b01000000, 0x10, 0x1A] = .ok (.portOut 0x10 0x1A) := by decide
theorem test_decode_gate : decode [0b01010000, 1, 0, 1] = .ok (.gate true false true) := by decide
theorem test_decode_refresh : decode [0b01100000, 1, 0, 0, 1] = .ok (.refresh true false false true) := by decide
theorem test_decode_sample : decode [0b01110000, 1, 1] = .ok (.sample 1 true) := by decide
theorem test_decode_rotary : decode [0b10000000, 0, 1] = .ok (.rotary 0 true) := by decide
theorem test_decode_reserved : decode [0b10010000] = .ok (.reserved 0x90) := by decide
theorem test_decode_selector : decode [0b01010001] = .ok (.reserved 0x51) := by decide
theorem test_decode_selector_with_record : decode [0b01010001, 1, 1, 1] = .ok (.reserved 0x51) := by decide
theorem test_decode_rejects_short_record : decode [0x40, 0x10] = .error (.badRecord 0x40) := by decide
theorem test_decode_rejects_long_record : decode [0x40, 0x10, 0x1A, 0] = .error (.badRecord 0x40) := by decide
theorem test_decode_rejects_no_op : decode [] = .error .noOpByte := by decide
theorem test_table_word_sense : decodeTableWord 8 0x25 = some (.sense 5 false (some ⟨0, 0⟩)) := by decide
theorem test_table_word_reserved : decodeTableWord 8 0xF0 = some (.reserved 0xF0) := by decide

/-! RESET: the values of R38 and the calls of R221 and R222. -/

theorem test_reset_state : yields (execReset Config.boot State.powerOn) (fun t => t == State.reset) = true := by decide
theorem test_reset_shared : yields (execReset exShared State.powerOn) (fun t => t.out.hw ==
    [.writePinsSet 0, .writePinsClear 0x186, .writePinFunction 1 .input, .writePinFunction 2 .input,
      .writePinFunction 0 .input, .writePinFunction 3 .input, .writePinFunction 4 .input,
      .writePinFunction 9 .input, .writePinFunction 10 .input, .writePinFunction 7 .output,
      .writePinFunction 8 .output, .setPortInput 7 false, .setPortInput 0 false, .setPortInput 2 false]) = true := by
  decide

/-! SENSE: S4, S11. -/

theorem test_sense_forced_clock : yields (execSense 2 false none (pulled (r0 Config.boot) false false false true))
    (fun t => t.out.result == .sensed true true && t.lines.clock.sensedHigh) = true := by decide
theorem test_sense_atn_transition : yields (execSense 0 false (some ⟨0x1A, 0x00⟩) (r0 Config.boot))
    (fun t => !t.lines.atn.sensedHigh && t.pullDataLow && t.lines.data.pulledLowByDrive && t.fed.atn &&
      t.out.hw == [.setPortInput 7 true, .signalEdgeInput true]) = true := by decide

/-! ATNEDGE: E3, E5. -/

theorem test_atnEdge_keeps_chip_pull :
    yields (execAtnEdge false (some ⟨0x1A, 0x00⟩) (pulled (r0 Config.boot) false true true false))
      (fun t => !t.pullDataLow && t.lines.data.pulledLowByDrive) = true := by decide
theorem test_atnEdge_variantB : yields (execAtnEdge true (some ⟨0x1A, 0x10⟩) (r0 exB))
    (fun t => t.pullDataLow && t.out.hw == [.setPortInput 7 true, .setLevelFlag true]) = true := by decide

/-! PORTOUT: P-5 and P-9. -/

theorem test_portOut_gate : yields (execPortOut 0x10 0x1A (atnLow (r0 Config.boot)))
    (fun t => !t.pullDataLow && !t.lines.data.pulledLowByDrive && !t.lines.clock.pulledLowByChipOutput) = true := by
  decide
theorem test_portOut_all_inputs : yields (execPortOut 0x00 0x00 (r0 Config.boot))
    (fun t => !t.pullDataLow && t.lines.data == ⟨true, true, true⟩ && t.lines.clock == ⟨true, false, true⟩) = true := by
  decide

/-! GATE: G4 and G5. -/

theorem test_gate_no_chip : yields (execGate true true false (r0 exN)) (fun t => t.out.result == .gate true) = true := by
  decide
theorem test_gate_guard : yields (execGate true false false (r0 Config.boot))
    (fun t => t.out.result == .gate false) = true := by decide

/-! REFRESH: L1-5 with the outputs inverted, and shared mode (R153). -/

theorem test_refresh_split_inverted :
    yields (execRefresh true false false false (r0 { Config.boot with invertOutputs := true }))
      (fun t => t.out.result == .masks 0x040 0x1A0) = true := by decide
theorem test_refresh_shared : yields (execRefresh true false true false (r0 exShared))
    (fun t => t.out.hw == [.writePinsSet 0x080, .writePinsClear 0x106, .writePinFunction 1 .output,
      .writePinFunction 2 .input]) = true := by decide

/-! SAMPLE: the Press of L1-6, and the Repeat that follows it (R174). -/

theorem test_sample_press : yields (execSample 0 false (withPin (r0 Config.boot) ⟨false, false, 2, 0⟩))
    (fun t => t.pins[0]? == some ⟨false, false, 3, 3⟩ && t.out.events == [.button 0 .press]) = true := by decide
theorem test_sample_repeat : yields (execSample 0 false (withPin (r0 Config.boot) ⟨false, false, 5, 1⟩))
    (fun t => t.pins[0]? == some ⟨false, false, 6, 3⟩ && t.out.events == [.button 0 .repeated]) = true := by decide

/-! ROTARY: the example of R177, and no event without a Press. -/

theorem test_rotary_down :
    yields (execRotary 0 true { r0 exN with pins := [⟨false, false, 2, 2⟩, ⟨false, false, 0, 0⟩] })
      (fun t => t.out.events == [.rotary 0 .second] && directionName .upDown .second == .down) = true := by decide
theorem test_rotary_not_pressed : yields (execRotary 0 false (r0 exN)) (fun t => t.out.events == []) = true := by decide

/-! CYCLE: the first cycle after RESET with everything released decodes the port (R193, R223), and a cycle with ATN low
and ATNA set pulls nothing on variant A (L1-7). -/

theorem test_cycle_first : yields (execCycle 0x61F (some ⟨0x1A, 0x00⟩) false false (r0 Config.boot))
    (fun t => t.lastApplied == some ⟨0x1A, 0x00⟩ && t.out.result == .cycle false && t.out.hw ==
      [.readPinLevels 0x61F, .writePinsSet 0, .writePinsClear 0x1E0]) = true := by decide
theorem test_cycle_atn : yields (execCycle 0x61E (some ⟨0x1A, 0x10⟩) false false (r0 Config.boot))
    (fun t => !t.lines.atn.sensedHigh && !t.pullDataLow && t.fed.atn && t.out.hw ==
      [.readPinLevels 0x61E, .setPortInput 7 true, .signalEdgeInput true, .writePinsSet 0, .writePinsClear 0x1E0]) =
    true := by decide

/-! Refusals: S19, S20, G7, and a second call on a refused state. -/

theorem test_refuse_line : refusedBy (execSense 5 false none (r0 Config.boot))
    (.invalidLineId ((r0 Config.boot).marked .invalidLineId)) = true := by decide
theorem test_refuse_snapshot : refusedBy (execSense 0 false none (r0 Config.boot))
    (.snapshotMismatch ((r0 Config.boot).marked .snapshotMismatch)) = true := by decide
theorem test_refuse_reserved : refusedBy (execReserved 0x51 (r0 Config.boot))
    (.reservedOpcode ((r0 Config.boot).marked .reservedOpcode)) = true := by decide
theorem test_refuse_not_reset : refusedBy (execGate true true true State.powerOn)
    (.notReset (State.powerOn.marked .notReset)) = true := by decide
theorem test_refuse_sticky : refusedBy (execReset Config.boot ((r0 Config.boot).marked .noChip))
    (.noChip ((r0 Config.boot).marked .noChip)) = true := by decide

/-! Steps. -/

theorem test_step_runs_call : yields (step (State.reset.withFetchWord 8 0x50))
    (fun t => t.out.result == .gate false && t.calls == []) = true := by decide
theorem test_step_idle : yields (step State.reset) (fun t => t == State.reset) = true := by decide
theorem test_step_not_a_call : refusedBy (step { State.reset with calls := [[0x40]] })
    (.notACall (.badRecord 0x40) { State.reset with calls := [[0x40]] }) = true := by decide

/-! Witnesses: for each statement with hypotheses, a state and operands that meet them, each clause at a boundary of
its range. -/

theorem ready_r0 (c : Config) : Ready c (r0 c) := ⟨rfl, rfl⟩

theorem witness_ResetLeavesInitialValues : State.powerOn.mark = none ∧ configAdmitted Config.boot = true := by decide
theorem witness_ResetInitialisesPinsThenChip : State.powerOn.mark = none ∧ configAdmitted exShared = true := by decide
theorem witness_ResetLeavesPinsReleased :
    (∃ t, exec (.reset Config.boot) State.powerOn = .next t) ∧ Config.boot.splitLines = true ∧
    (∃ t, exec (.reset exShared) State.powerOn = .next t) ∧ 11 ∉ allPins Config.boot :=
  ⟨⟨_, rfl⟩, rfl, ⟨_, rfl⟩, by decide⟩
theorem witness_ResetRefusesIllFormedConfig :
    (r0 exB).mark = none ∧ configAdmitted { exB with pinWidth := 10 } = false := by decide
theorem witness_SenseForcedLineIgnoresRaw :
    Ready Config.boot (pulled (r0 Config.boot) true true false true) ∧
    (pulled (r0 Config.boot) true true false true).lines.data.pulledLowByDrive = true ∧
    (pulled (r0 Config.boot) false true true false).lines.data.pulledLowByChipOutput = true ∧
    (pulled (r0 Config.boot) true true false true).lines.clock.pulledLowByChipOutput = true := by decide
theorem witness_SenseFreeLineStoresNormalisedLevel :
    Ready Config.boot (r0 Config.boot) ∧ (r0 Config.boot).lines.data.pulledLowByDrive = false ∧
    (r0 Config.boot).lines.data.pulledLowByChipOutput = false ∧
    (r0 Config.boot).lines.clock.pulledLowByChipOutput = false := by decide
theorem witness_SenseResetReportsCondition : Ready exB (r0 exB) := by decide
theorem witness_SenseAtnAlwaysSampled :
    Ready Config.boot (r0 Config.boot) ∧ (some (⟨0, 0⟩ : PortState)).isSome = decide (Config.boot.chipKind ≠ .absent) ∧
    Ready exN (r0 exN) ∧ (none : Option PortState).isSome = decide (exN.chipKind ≠ .absent) := by decide
theorem witness_SenseAtnNotifiesOnTransition :
    Ready Config.boot (r0 Config.boot) ∧ (some (⟨0x1A, 0⟩ : PortState)).isSome = decide (Config.boot.chipKind ≠ .absent) ∧
    (r0 Config.boot).lines.atn.sensedHigh = (true != Config.boot.invertInputs) ∧
    (r0 Config.boot).lines.atn.sensedHigh ≠ (false != Config.boot.invertInputs) := by decide
theorem witness_SenseTwiceIsSenseOnce : ∃ t, exec (.sense 0 false (some ⟨0x1A, 0⟩)) (r0 Config.boot) = .next t := ⟨_, rfl⟩
theorem witness_InvalidLineAndPinAreRefused :
    Ready Config.boot (r0 Config.boot) ∧ 4 < (5 : Selector).toNat ∧ 4 < (15 : Selector).toNat ∧
    Config.boot.buttons.length ≤ 2 := by decide
theorem witness_SnapshotMismatchIsRefused :
    Ready Config.boot (r0 Config.boot) ∧ (none : Option PortState).isSome ≠ decide (Config.boot.chipKind ≠ .absent) ∧
    Ready exN (r0 exN) ∧ (some (⟨0, 0⟩ : PortState)).isSome ≠ decide (exN.chipKind ≠ .absent) := by decide
theorem witness_GateIsPureFunctionOfChipKind :
    Ready Config.boot (r0 Config.boot) ∧
    (∃ t, exec (.atnEdge true (some ⟨0x1A, 0x10⟩)) (r0 Config.boot) = .next t) ∧
    (∃ t, exec (.atnEdge true none) (r0 exN) = .next t) ∧
    (∃ t, exec (.portOut 0x10 0x1A) (r0 Config.boot) = .next t) :=
  ⟨by decide, ⟨_, rfl⟩, ⟨_, rfl⟩, ⟨_, rfl⟩⟩
theorem witness_GateTruthTables :
    Ready Config.boot (r0 Config.boot) ∧ Config.boot.chipKind = .variantA ∧
    Ready exB (r0 exB) ∧ exB.chipKind = .variantB := by decide
theorem witness_GuardForcesPullFalse :
    Ready exB (r0 exB) ∧ exB.chipKind ≠ .absent ∧
    (0x0A : Byte).getLsbD exB.portMap.atnaOut = false := by decide
theorem witness_AtnEdgeTellsChipAndRecomputesGate : Ready exB (r0 exB) ∧ exB.chipKind ≠ .absent := by decide
theorem witness_AtnEdgeWithoutChipReleasesGate : Ready exN (r0 exN) ∧ exN.chipKind = .absent := by decide
theorem witness_PortOutDecodesPulls :
    Ready exB (r0 exB) ∧ exB.chipKind ≠ .absent ∧ Ready exN (r0 exN) ∧ exN.chipKind = .absent := by decide
theorem witness_DataPullIsGateOrChip :
    (pulled (r0 exB) false true true false).DataPullTotal ∧
    (∃ t, exec (.atnEdge false (some ⟨0x1A, 0⟩)) (pulled (r0 exB) false true true false) = .next t ∧
      t.lines.data.pulledLowByChipOutput = true) :=
  ⟨by decide, _, rfl, rfl⟩
theorem witness_RefreshSplitWritesLevels : Ready Config.boot (r0 Config.boot) ∧ Config.boot.splitLines = true := by decide
theorem witness_RefreshSharedSwitchesFunctions : Ready exShared (r0 exShared) ∧ exShared.splitLines = false := by decide
theorem witness_RefreshMasksAreDisjoint : Ready exShared (r0 exShared) ∧ configAdmitted exShared = true := by decide
/-- A state of a session whose configuration is known meets the invariant when it is a good state of that session. -/
theorem inv_of_session {c : Config} {s : State} (hc : s.cfg = some c) (hw : s.HardWired) (h : s.SessionOk c) : s.Inv :=
  ⟨hw, fun _ hc' => by obtain rfl : c = _ := Option.some.inj (hc.symm.trans hc'); exact h⟩
theorem inv_r0_boot : (r0 Config.boot).Inv := inv_of_session rfl (by decide) (by decide)
theorem inv_r0_exShared : (r0 exShared).Inv := inv_of_session rfl (by decide) (by decide)
theorem witness_RefreshDrivesOpenCollector :
    (r0 Config.boot).Inv ∧ Ready Config.boot (r0 Config.boot) ∧ Config.boot.splitLines = true ∧
    (∃ t, exec (.refresh true false true false) (r0 Config.boot) = .next t) ∧
    (r0 exShared).Inv ∧ Ready exShared (r0 exShared) ∧ exShared.splitLines = false ∧
    (∃ t, exec (.refresh true false true false) (r0 exShared) = .next t) :=
  ⟨inv_r0_boot, by decide, rfl, ⟨_, rfl⟩, inv_r0_exShared, by decide, rfl, ⟨_, rfl⟩⟩
theorem witness_RefreshTwiceIsRefreshOnce : ∃ t, exec (.refresh true false true false) (r0 exShared) = .next t := ⟨_, rfl⟩
theorem witness_SampleChangeStartsRun :
    Ready exB (r0 exB) ∧ exB.buttons[1]? = some ⟨10, 3⟩ ∧ (r0 exB).pins[1]? = some ⟨true, true, 0, 0⟩ ∧
    false ≠ (⟨true, true, 0, 0⟩ : InputPin).previousRaw := by decide
theorem witness_SampleBelowThresholdCounts :
    Ready exB (r0 exB) ∧ exB.buttons[0]? = some ⟨9, 3⟩ ∧
    (withPin (r0 exB) ⟨true, true, 1, 0⟩).pins[0]? = some ⟨true, true, 1, 0⟩ ∧
    (1 : U32).toNat + 1 < (3 : U32).toNat := by decide
theorem witness_SampleReachingThresholdFires :
    Ready exB (withPin (r0 exB) ⟨false, false, 2, 0⟩) ∧ exB.buttons[0]? = some ⟨9, 3⟩ ∧
    (withPin (r0 exB) ⟨false, false, 2, 0⟩).pins[0]? = some ⟨false, false, 2, 0⟩ ∧
    (2 : U32).toNat + 1 = (3 : U32).toNat ∧ false = exB.pressedLevel ∧
    (withPin (r0 exB) ⟨true, true, 2, 0⟩).pins[0]? = some ⟨true, true, 2, 0⟩ ∧ true ≠ exB.pressedLevel := by decide
theorem witness_SamplePastThresholdRepeats :
    Ready exB (withPin (r0 exB) ⟨false, false, 0xFFFFFFFF, 1⟩) ∧ exB.buttons[0]? = some ⟨9, 3⟩ ∧
    (withPin (r0 exB) ⟨false, false, 0xFFFFFFFF, 1⟩).pins[0]? = some ⟨false, false, 0xFFFFFFFF, 1⟩ ∧
    (3 : U32).toNat ≤ (0xFFFFFFFF : U32).toNat ∧
    (3 : U32).toNat < (BitVec.ofNat 32 (min ((0xFFFFFFFF : U32).toNat + 1) (2 ^ 32 - 1))).toNat ∧
    (withPin (r0 exB) ⟨false, false, 3, 2⟩).pins[0]? = some ⟨false, false, 3, 2⟩ ∧ 1 < (2 : U32).toNat ∧
    (3 : U32).toNat < (BitVec.ofNat 32 (min ((3 : U32).toNat + 1) (2 ^ 32 - 1))).toNat ∧
    (withPin (r0 exB) ⟨true, true, 3, 0⟩).pins[0]? = some ⟨true, true, 3, 0⟩ ∧ true ≠ exB.pressedLevel := by decide
theorem witness_DebounceFiresExactlyAtThreshold :
    Ready exB (r0 exB) ∧ exB.buttons[0]? = some ⟨9, 3⟩ ∧ (r0 exB).pins[0]? = some ⟨true, true, 0, 0⟩ ∧
    false ≠ (⟨true, true, 0, 0⟩ : InputPin).previousRaw ∧ 1 ≤ (3 : U32).toNat ∧ 3 ≤ (3 : U32).toNat := by decide
theorem witness_AutoRepeatEveryThresholdSamples :
    Ready exB (withPin (r0 exB) ⟨false, false, 3, 3⟩) ∧ exB.buttons[0]? = some ⟨9, 3⟩ ∧
    (withPin (r0 exB) ⟨false, false, 3, 3⟩).pins[0]? = some ⟨false, false, 3, 3⟩ ∧ false = exB.pressedLevel ∧
    1 ≤ (3 : U32).toNat ∧ (3 : U32).toNat < 2 ^ 32 - 1 := by decide
theorem witness_RotaryReadsSecondaryRaw :
    Ready exN (r0 exN) ∧ exN.rotaryPairs[0]? = some ⟨0, 1, .upDown⟩ ∧ (r0 exN).pins[1]? = some ⟨true, true, 0, 0⟩ ∧
    exN.rotaryPairs.length ≤ 1 := by decide

/-- The hypotheses that the CYCLE statements share: with each kind of chip, in either wiring mode. -/
theorem witness_cycle_completes :
    Ready exShared (r0 exShared) ∧ (some (⟨0x1A, 0x10⟩ : PortState)).isSome = decide (exShared.chipKind ≠ .absent) ∧
    (∃ t, exec (.cycle 0x61E (some ⟨0x1A, 0x10⟩) true false) (r0 exShared) = .next t) ∧
    Ready exN (r0 exN) ∧ (none : Option PortState).isSome = decide (exN.chipKind ≠ .absent) ∧
    (∃ t, exec (.cycle 0x61E none true false) (r0 exN) = .next t) ∧
    Ready Config.boot (r0 Config.boot) ∧
    (∃ t, exec (.cycle 0x61E (some ⟨0x00, 0x10⟩) true false) (r0 Config.boot) = .next t) :=
  ⟨by decide, by decide, ⟨_, rfl⟩, by decide, by decide, ⟨_, rfl⟩, by decide, ⟨_, rfl⟩⟩
theorem witness_CycleRunsToCompletion :
    Ready exN (r0 exN) ∧ (none : Option PortState).isSome = decide (exN.chipKind ≠ .absent) := by decide
theorem witness_CycleIsItsOperationsInOrder :
    Ready exB (r0 exB) ∧ (some (⟨0, 0⟩ : PortState)).isSome = decide (exB.chipKind ≠ .absent) := by decide
theorem witness_CycleSamplesEveryLine :
    Ready exB (r0 exB) ∧ ∃ t, exec (.cycle 0x600 (some ⟨0x1A, 0⟩) false false) (r0 exB) = .next t :=
  ⟨by decide, _, rfl⟩
theorem witness_CycleLeavesNoStalePull :
    Ready exB (r0 exB) ∧ (r0 exB).Coherent exB ∧ (r0 exB).DataPullTotal ∧
    ∃ t, exec (.cycle 0x600 (some ⟨0x1A, 0x12⟩) false false) (r0 exB) = .next t :=
  ⟨by decide, (by intro p h; cases h), by decide, _, rfl⟩
theorem witness_CycleFeedsChipThisCyclesValues :
    Ready exB (r0 exB) ∧ ∃ t, exec (.cycle 0x61E (some ⟨0, 0⟩) false false) (r0 exB) = .next t := ⟨by decide, _, rfl⟩
theorem witness_CycleEndsWithRefreshOfItsPulls :
    Ready exShared (r0 exShared) ∧ (r0 exShared).DataPullTotal ∧ ∃ t, exec (.cycle 0x61E (some ⟨0, 0⟩) false true) (r0 exShared) = .next t :=
  ⟨by decide, by decide, _, rfl⟩
theorem witness_CycleWorkIsBounded :
    Ready exShared (r0 exShared) ∧ ∃ t, exec (.cycle 0 (some ⟨0, 0⟩) false true) (r0 exShared) = .next t :=
  ⟨by decide, _, rfl⟩
theorem witness_CycleEventsAreOrdered :
    Ready exN (withPin (r0 exN) ⟨false, false, 1, 0⟩) ∧
    ∃ t, exec (.cycle 0x41F none false false) (withPin (r0 exN) ⟨false, false, 1, 0⟩) = .next t ∧
      t.out.events = [.button 0 .press, .rotary 0 .first] := ⟨by decide, _, rfl, rfl⟩
theorem witness_CycleReportsEveryEvent :
    Ready exN (withPin (r0 exN) ⟨false, false, 1, 0⟩) ∧
    (withPin (r0 exN) ⟨false, false, 1, 0⟩).pins.length = exN.buttons.length ∧
    (∃ t, exec (.cycle 0x41F none false false) (withPin (r0 exN) ⟨false, false, 1, 0⟩) = .next t) ∧
    exN.buttons[1]? = some ⟨10, 2⟩ ∧ exN.rotaryPairs[0]? = some ⟨0, 1, .upDown⟩ :=
  ⟨by decide, by decide, ⟨_, rfl⟩, by decide, by decide⟩
theorem witness_CycleSignalsEdgeOncePerTransition :
    Ready Config.boot (r0 Config.boot) ∧
    ∃ t, exec (.cycle 0x61E (some ⟨0x1A, 0x10⟩) false false) (r0 Config.boot) = .next t ∧
      t.lines.atn.sensedHigh ≠ (r0 Config.boot).lines.atn.sensedHigh := ⟨by decide, _, rfl, by decide⟩
theorem witness_CycleRepeatedMakesNoChipCall :
    ∃ t u, exec (.cycle 0x61F (some ⟨0x1A, 0x00⟩) false false) (r0 Config.boot) = .next t ∧
      exec (.cycle 0x61F (some ⟨0x1A, 0x00⟩) false false) t = .next u ∧ u.lines = t.lines :=
  ⟨_, _, rfl, rfl, rfl⟩

theorem witness_OnlyResetWritesConfiguration :
    (∃ t, exec (.gate true true true) (r0 exB) = .next t) ∧ ∀ c, Instr.gate true true true ≠ .reset c :=
  ⟨⟨_, rfl⟩, fun _ h => by cases h⟩
theorem witness_EachFieldHasItsWriters :
    (∃ t, exec (.portOut 0x0A 0x1A) (r0 exB) = .next t ∧
      t.lines.data.pulledLowByChipOutput ≠ (r0 exB).lines.data.pulledLowByChipOutput) ∧
    (∀ c, Instr.portOut 0x0A 0x1A ≠ .reset c) ∧ ∀ l n d k, Instr.portOut 0x0A 0x1A ≠ .cycle l n d k :=
  ⟨⟨_, rfl, by decide⟩, fun _ h => (by cases h), fun _ _ _ _ h => by cases h⟩
theorem witness_OtherPinsAreUntouched :
    Ready exShared (r0 exShared) ∧ (∃ t, exec (.refresh true true true true) (r0 exShared) = .next t) ∧
    (∀ c, Instr.refresh true true true true ≠ .reset c) ∧ 5 ∉ refreshedPins exShared ∧
    (exShared.splitLines = false → 7 ≠ exShared.pinMap.data ∧ 7 ≠ exShared.pinMap.clock) :=
  ⟨by decide, ⟨_, rfl⟩, fun _ h => (by cases h), by decide, by decide⟩
theorem inv_r0_exN : (r0 exN).Inv := inv_of_session rfl (by decide) (by decide)
theorem witness_NoChipMeansNoChipCall :
    (r0 exN).Inv ∧ Ready exN (r0 exN) ∧ exN.chipKind = .absent ∧
    (∀ c, Instr.cycle 0x61E none false false ≠ .reset c) ∧
    ∃ t, exec (.cycle 0x61E none false false) (r0 exN) = .next t :=
  ⟨inv_r0_exN, by decide, rfl, fun _ h => (by cases h), _, rfl⟩
theorem witness_DebouncerAndBusAreIsolated :
    Ready exB (r0 exB) ∧ Ready exB (pulled (r0 exB) true true false false) ∧
    Ready exB (withPin (r0 exB) ⟨false, false, 2, 0⟩) ∧
    (∃ t, exec (.cycle 0x61F (some ⟨0x1A, 0⟩) false false) (r0 exB) = .next t) ∧
    (∃ t, exec (.cycle 0x61F (some ⟨0x1A, 0⟩) false false) (pulled (r0 exB) true true false false) = .next t) ∧
    (∃ t, exec (.cycle 0x61F (some ⟨0x1A, 0⟩) false false) (withPin (r0 exB) ⟨false, false, 2, 0⟩) = .next t) ∧
    (r0 exB).pins = (pulled (r0 exB) true true false false).pins ∧
    withPin (r0 exB) ⟨false, false, 2, 0⟩ = { r0 exB with
      pins := (withPin (r0 exB) ⟨false, false, 2, 0⟩).pins
      out := (withPin (r0 exB) ⟨false, false, 2, 0⟩).out
      calls := (withPin (r0 exB) ⟨false, false, 2, 0⟩).calls } :=
  ⟨by decide, by decide, by decide, ⟨_, rfl⟩, ⟨_, rfl⟩, ⟨_, rfl⟩, rfl, rfl⟩
theorem witness_SrqHasNoSideEffect :
    Ready exB (r0 exB) ∧ configAdmitted exB = true ∧
    (∀ i, i ≠ exB.pinMap.srq → Nat.testBit 0 i = Nat.testBit 8 i) ∧
    (∃ t, exec (.cycle 0 (some ⟨0x1A, 0⟩) false false) (r0 exB) = .next t) ∧
    (∃ t, exec (.cycle 8 (some ⟨0x1A, 0⟩) false false) (r0 exB) = .next t) := by
  refine ⟨by decide, by decide, fun i hi => ?_, ⟨_, rfl⟩, ⟨_, rfl⟩⟩
  have h : (8 : Nat) = 2 ^ 3 := rfl
  have hi' : ¬ 3 = i := fun e => hi e.symm
  rw [h, Nat.testBit_two_pow]
  simp [hi']

theorem witness_EveryOperationNeedsAReset :
    State.powerOn.mark = none ∧ State.powerOn.cfg = none ∧ ∀ c, Instr.reserved 0x90 ≠ .reset c :=
  ⟨rfl, rfl, fun _ h => by cases h⟩
theorem witness_ReservedOpcodeIsRefused :
    Ready exB ({ r0 exB with calls := [[0x51, 1, 1, 1]] } : State) ∧
    ((0x51 : Byte).toNat % 16 ≠ 0 ∧ (0x51 : Byte).toNat / 16 ≠ 2) ∧
    ({ r0 exB with calls := [[0x51, 1, 1, 1]] } : State).calls = (0x51 :: [1, 1, 1]) :: [] := by decide
theorem witness_RefusalMarkIsSticky : ((r0 exB).marked .noChip).mark = some .noChip := rfl
theorem witness_StepRunsTheDecodedCall :
    (Instr.reserved 0xFF).wf = true ∧
    ({ r0 exB with calls := [encode (.reserved 0xFF), [0x40]] } : State).calls = encode (.reserved 0xFF) :: [[0x40]] :=
  ⟨rfl, rfl⟩
theorem witness_DecodeOfEncode : (Instr.reserved 0x5F).wf = true ∧ (Instr.cycle 0x61F none true true).wf = true := by
  decide
theorem witness_EncodeOfDecode :
    decode [0x70, 0x80, 0x01, 1] = .ok (.sample 128 true) ∧ (∀ op, Instr.sample 128 true ≠ .reserved op) ∧
    decode [0x90, 7] = .ok (.reserved 0x90) := ⟨by decide, fun _ h => (by cases h), by decide⟩
theorem witness_OpByteNamesTheOperation :
    decode [0x24, 1, 1] = .ok (.sense 4 true none) ∧ 9 ≤ (0x90 : Byte).toNat / 16 ∧
    ((0x81 : Byte).toNat % 16 ≠ 0 ∧ (0x81 : Byte).toNat / 16 ≠ 2) := by decide
theorem witness_EveryStepKeepsInvariant :
    ({ r0 exN with calls := [[0x70, 0, 0]] } : State).Inv ∧
    ∃ t, step { r0 exN with calls := [[0x70, 0, 0]] } = .next t :=
  ⟨inv_of_session (c := exN) rfl (by decide) (by decide), _, rfl⟩

end Sys2Proof.Tests
end

-- ==== Proofs: GATE ====
section
/-! GATE on a running session: its one outcome, and the two variants' truth tables (R121, R122). -/

namespace Sys2Proof.Proofs

open Sys2Proof Sys2Proof.Machine Sys2Proof.Statements

/-- R121: on a running session GATE completes, and all that it changes is the output. -/
theorem exec_gate_ready {c : Config} {s : State} (hs : Ready c s) (atna atn dirA : Bool) :
    exec (.gate atna atn dirA) s = .next { s with out := ⟨[], [], .gate (gate c atna atn dirA)⟩ } := by
  obtain ⟨hm, hc⟩ := hs
  change execGate atna atn dirA s = _
  rw [execGate, enter_running _ hm hc]
  rfl

/-- Settles O15: GATE answers the gate function of its configuration, which with the ATNA pin an output is the bare
XOR of variant A and the bare AND of variant B. -/
theorem gateTruthTables : Obligations.GateTruthTables := by
  intro c s hs atna atn
  rw [exec_gate_ready hs]
  constructor
  · intro hA
    rw [gate_variantA c hA, Bool.true_and]
  · intro hB
    rw [gate_variantB c hB, Bool.true_and]

end Sys2Proof.Proofs
end

-- ==== Proofs: REFRESH ====
section
/-! REFRESH on a running session, its trace, and a second REFRESH with the same operands (R54, R150, R155). -/

namespace Sys2Proof.Proofs

open Sys2Proof Sys2Proof.Machine Sys2Proof.Statements

/-- R150: on a running session REFRESH completes with the writes of `refreshPins`. -/
theorem exec_refresh_ready {c : Config} {s : State} (hs : Ready c s) (d k led sound : Bool) :
    exec (.refresh d k led sound) s =
      .next ((refreshPins c d k led sound { s with out := .empty }).withResult
        (.masks (refreshMasks c d k led sound).set (refreshMasks c d k led sound).clear)) := by
  obtain ⟨hm, hc⟩ := hs
  change execRefresh d k led sound s = _
  rw [execRefresh, enter_running _ hm hc]

/-- R155: the trace of a Refresh is what stood there, then the trace of the same Refresh on an empty one. -/
theorem refreshPins_hw_append (c : Config) (d k led sound : Bool) {s t : State} (ht : t.out.hw = []) :
    (refreshPins c d k led sound s).out.hw = s.out.hw ++ (refreshPins c d k led sound t).out.hw := by
  simp [refreshPins_hw, ht]

/-- A Refresh of pins that a Refresh with the same operands has left leaves them as they are (R54). -/
theorem refreshPins_gpio_twice {c : Config} {d k led sound : Bool} {s t : State}
    (h : t.gpio = (refreshPins c d k led sound s).gpio) : (refreshPins c d k led sound t).gpio = t.gpio := by
  have hlatch : (refreshPins c d k led sound t).gpio.latch = t.gpio.latch := by
    refine Nat.eq_of_testBit_eq fun i => ?_
    rw [refreshPins_latch, h, refreshPins_latch]
    cases (refreshMasks c d k led sound).clear.testBit i <;> simp
  have houtputs : (refreshPins c d k led sound t).gpio.outputs = t.gpio.outputs := by
    refine Nat.eq_of_testBit_eq fun i => ?_
    rw [refreshPins_outputs, h, refreshPins_outputs]
    split_ifs <;> rfl
  exact (Gpio.mk.injEq ..).mpr ⟨hlatch, houtputs⟩

end Sys2Proof.Proofs
end

-- ==== Proofs: CYCLE before its Refresh ====
section
/-! The steps of a CYCLE that come before its Refresh (R191): they write no pin, and they keep DATA's total pull
(R132). -/

namespace Sys2Proof.Proofs

open Sys2Proof Sys2Proof.Machine Sys2Proof.Statements

/-- The state that step 5 of a cycle refreshes the pins from: steps 1 to 4, and the propagation after them (R191). -/
def stateToRefresh (c : Config) (levels : Mask) (snap : Option PortState) (s : State) : State :=
  let sensed := sensingPhase c levels snap (samplingPhase c levels (s.readPinLevels levels))
  propagateInputs c (decodeIfChanged c snap (propagateInputs c sensed))

/-- R156: a cycle is its earlier steps, then one Refresh. -/
theorem cycleSteps_eq (c : Config) (levels : Mask) (snap : Option PortState) (led sound : Bool) (s : State) :
    cycleSteps c levels snap led sound s =
      (refreshFromPulls c led sound (stateToRefresh c levels snap s)).withResult
        (.cycle (stateToRefresh c levels snap s).resetAsserted) := by
  simp [cycleSteps, stateToRefresh]

/-- What every SENSE keeps, the sensing phase keeps. -/
theorem sensingPhase_keeps {c : Config} {snap : Option PortState} {P : State → Prop}
    (hstep : ∀ l raw s, P s → P (senseLine c l raw snap s)) (levels : Mask) {s : State} (hs : P s) :
    P (sensingPhase c levels snap s) :=
  hstep .atn _ _ (hstep .reset _ _ (hstep .srq _ _ (hstep .clock _ _ (hstep .data _ _ hs))))

/-! The trace: no pin is written. -/

/-- The trace so far writes no GPIO register. -/
def NoPinWrite (s : State) : Prop := s.out.hw.all (fun h => !isPinWrite h) = true

/-- A step that appends only calls that write no pin keeps `NoPinWrite`. -/
theorem noPinWrite_of_append {s t : State} {calls : List HwCall} (h : t.out.hw = s.out.hw ++ calls)
    (hcalls : calls.all (fun h => !isPinWrite h) = true) (hs : NoPinWrite s) : NoPinWrite t := by
  rw [NoPinWrite, h, List.all_append, hcalls, Bool.and_true]
  exact hs

theorem noPinWrite_of_sameTrace {s t : State} (h : t.out.hw = s.out.hw) (hs : NoPinWrite s) : NoPinWrite t :=
  noPinWrite_of_append (calls := []) (by simpa using h) rfl hs

theorem feedAtn_noPinWrite (c : Config) (a : Bool) {s : State} (hs : NoPinWrite s) : NoPinWrite (feedAtn c a s) := by
  refine noPinWrite_of_append (feedAtn_hw c a s) ?_ hs
  cases c.chipKind <;> rfl

theorem propagateInputs_noPinWrite (c : Config) {s : State} (hs : NoPinWrite s) :
    NoPinWrite (propagateInputs c s) := by
  refine noPinWrite_of_append (propagateInputs_hw c s) ?_ hs
  repeat' split
  all_goals rfl

theorem senseLine_noPinWrite (c : Config) (snap : Option PortState) (l : LineId) (raw : Bool) (s : State)
    (hs : NoPinWrite s) : NoPinWrite (senseLine c l raw snap s) := by
  by_cases hl : l = .atn
  · subst hl
    have hsensed : NoPinWrite (s.setSensed .atn (senseLevel c raw)) := noPinWrite_of_sameTrace (by simp) hs
    rcases senseAtn_cases c raw snap s with ⟨-, h⟩ | ⟨-, h⟩
    · rwa [senseLine, h]
    · rw [senseLine, h]
      exact noPinWrite_of_sameTrace (atnTransition_hw ..) (feedAtn_noPinWrite c _ hsensed)
  · exact noPinWrite_of_sameTrace (by simp [senseLine_eq c l raw snap s hl]) hs

/-- R156: before its Refresh a cycle writes no pin. -/
theorem stateToRefresh_noPinWrite (c : Config) (levels : Mask) (snap : Option PortState) {s : State}
    (hs : NoPinWrite s) : NoPinWrite (stateToRefresh c levels snap s) := by
  have hread : NoPinWrite (s.readPinLevels levels) := noPinWrite_of_append (record_hw ..) rfl hs
  have hsampled := noPinWrite_of_sameTrace (samplingPhase_hw c levels _) hread
  have hsensed := sensingPhase_keeps (senseLine_noPinWrite c snap) levels hsampled
  have hfed := propagateInputs_noPinWrite c hsensed
  have hdecoded := noPinWrite_of_sameTrace (congrArg Output.hw (decodeIfChanged_out c snap _)) hfed
  exact propagateInputs_noPinWrite c hdecoded

/-! DATA's total pull (R132). -/

/-- What `DataPullTotal` reads of a state. -/
theorem dataPullTotal_congr {s t : State} (hlines : t.lines = s.lines) (hgate : t.pullDataLow = s.pullDataLow)
    (hs : s.DataPullTotal) : t.DataPullTotal := by
  unfold State.DataPullTotal
  rwa [hlines, hgate]

/-- Storing a sample keeps DATA's pulls. -/
theorem setSensed_dataPullTotal (l : LineId) (v : Bool) {s : State} (hs : s.DataPullTotal) :
    (s.setSensed l v).DataPullTotal := by
  cases l <;> exact hs

/-- An ATN transition restores DATA's total pull, whatever it was (R125, R132). -/
theorem atnTransition_dataPullTotal (c : Config) (a : Bool) (snap : Option PortState) (s : State) :
    (atnTransition c a snap s).DataPullTotal := by
  simp [State.DataPullTotal, atnTransition_lines]

/-- A decode of the chip's port restores DATA's total pull, whatever it was (R130, R132). -/
theorem decodePort_dataPullTotal (c : Config) (status dir : Byte) (s : State) :
    (decodePort c status dir s).DataPullTotal := rfl

theorem senseLine_dataPullTotal (c : Config) (snap : Option PortState) (l : LineId) (raw : Bool) (s : State)
    (hs : s.DataPullTotal) : (senseLine c l raw snap s).DataPullTotal := by
  by_cases hl : l = .atn
  · subst hl
    rcases senseAtn_cases c raw snap s with ⟨-, h⟩ | ⟨-, h⟩
    · rw [senseLine, h]
      exact setSensed_dataPullTotal _ _ hs
    · rw [senseLine, h]
      exact atnTransition_dataPullTotal ..
  · rw [senseLine_eq c l raw snap s hl]
    exact setSensed_dataPullTotal l _ hs

theorem propagateInputs_dataPullTotal (c : Config) {s : State} (hs : s.DataPullTotal) :
    (propagateInputs c s).DataPullTotal :=
  dataPullTotal_congr (propagateInputs_lines c s) (propagateInputs_pullDataLow c s) hs

theorem decodeIfChanged_dataPullTotal (c : Config) (snap : Option PortState) {s : State} (hs : s.DataPullTotal) :
    (decodeIfChanged c snap s).DataPullTotal := by
  unfold decodeIfChanged
  split
  · exact hs
  · split
    · exact hs
    · exact decodePort_dataPullTotal ..

/-- R132 over the steps of a cycle before its Refresh. -/
theorem stateToRefresh_dataPullTotal (c : Config) (levels : Mask) (snap : Option PortState) {s : State}
    (hs : s.DataPullTotal) : (stateToRefresh c levels snap s).DataPullTotal := by
  have hsampled : (samplingPhase c levels (s.readPinLevels levels)).DataPullTotal :=
    dataPullTotal_congr (samplingPhase_lines ..) (samplingPhase_pullDataLow ..) hs
  have hsensed := sensingPhase_keeps (senseLine_dataPullTotal c snap) levels hsampled
  have hfed := propagateInputs_dataPullTotal c hsensed
  exact propagateInputs_dataPullTotal c (decodeIfChanged_dataPullTotal c snap hfed)

end Sys2Proof.Proofs
end

-- ==== Proofs: CYCLE's Refresh ====
section
/-! How a CYCLE ends (R156). -/

namespace Sys2Proof.Proofs

open Sys2Proof Sys2Proof.Machine Sys2Proof.Statements

/-- R191: a completed CYCLE has reached, by its earlier steps, a state `r` with no pin write in its trace, and ends
with the Refresh of `r`'s pulls. -/
theorem exec_cycle_next {c : Config} {s t : State} {levels : Mask} {snap : Option PortState} {led sound : Bool}
    (hs : Ready c s) (h : exec (.cycle levels snap led sound) s = .next t) :
    ∃ r, Ready c r ∧ NoPinWrite r ∧ (s.DataPullTotal → r.DataPullTotal) ∧
      t = (refreshFromPulls c led sound r).withResult (.cycle r.resetAsserted) := by
  obtain ⟨hmark, c', hc', -, ht⟩ := execCycle_next h
  obtain rfl : c' = c := Option.some.inj (hc'.symm.trans hs.2)
  refine ⟨stateToRefresh c' (pinLevels c' levels) snap { s with out := .empty }, ⟨?_, ?_⟩, ?_, fun hd => ?_, ?_⟩
  · simpa [stateToRefresh] using hmark
  · simpa [stateToRefresh] using hc'
  · exact stateToRefresh_noPinWrite c' _ snap rfl
  · exact stateToRefresh_dataPullTotal c' _ snap hd
  · rw [ht, cycleSteps_eq]

/-- Settles O38: `r`, the state that the cycle refreshes from, has the cycle's lines and no pin write in its trace, so
the cycle ends with the Refresh of its own pulls, and a second such Refresh finds the pins as it would leave them. -/
theorem cycleEndsWithRefreshOfItsPulls : Obligations.CycleEndsWithRefreshOfItsPulls := by
  intro c s t levels snap led sound hs h
  obtain ⟨r, ⟨hmark, hcfg⟩, hquiet, htotal, ht⟩ := exec_cycle_next hs h
  have htReady : Ready c t := ⟨by simpa [ht] using hmark, by simpa [ht] using hcfg⟩
  have hlines : t.lines = r.lines := by simp [ht]
  have hgate : t.pullDataLow = r.pullDataLow := by simp [ht]
  have hout : t.out.hw = (refreshPins c t.lines.data.pulledLowByDrive t.lines.clock.pulledLowByChipOutput led sound
      r).out.hw := by rw [hlines, ht]; rfl
  have hgpio : t.gpio = (refreshPins c t.lines.data.pulledLowByDrive t.lines.clock.pulledLowByChipOutput led sound
      r).gpio := by rw [hlines, ht]; rfl
  refine ⟨_, r.out.hw, exec_refresh_ready htReady .., ?_, hquiet, ?_, fun hd => ?_⟩
  · rw [hout, withResult_hw]
    exact refreshPins_hw_append c _ _ led sound rfl
  · exact refreshPins_gpio_twice (t := { t with out := .empty }) hgpio
  · exact dataPullTotal_congr hlines hgate (htotal hd)

end Sys2Proof.Proofs
end

-- ==== Proofs: Refusals ====
section
/-! What a refused operation leaves behind (R201, R202). -/

namespace Sys2Proof.Proofs

open Sys2Proof Sys2Proof.Machine Sys2Proof.Statements

/-- R202: on an unmarked state RESET refuses a configuration that fails R39, on the very state it was called with. -/
theorem execReset_illFormed {c : Config} {s : State} (hm : s.mark = none) (hc : configAdmitted c = false) :
    execReset c s = s.refuse .illFormedConfig := by
  simp [execReset, hm, hc]

/-- R201: all that a refusal changes is the mark and the output. -/
theorem refuse_eq (s : State) (r : Reason) :
    s.refuse r = .refused (r.refusal { s with mark := some r, out := ⟨[], [], .nothing⟩ }) := rfl

/-- Settles O4: the check of R39 stands before RESET's first write, so the refusal marks the state of the call. -/
theorem resetRefusesIllFormedConfig : Obligations.ResetRefusesIllFormedConfig := by
  intro c s hm hc
  change execReset c s = _
  rw [execReset_illFormed hm hc, refuse_eq]
  rfl

end Sys2Proof.Proofs
end

-- ==== Proofs: Encodings ====
section
/-! The round trips of the byte layout (R79 to R82): every reader takes back what its encoder lays down, and takes
nothing else. -/

namespace Sys2Proof.Proofs

open Sys2Proof Sys2Proof.Machine Sys2Proof.Statements

/-! The op bytes. -/

/-- R81, in the arithmetic of the statements. -/
theorem reservesOp_iff_arith (op : Byte) :
    Instr.reservesOp op = true ↔ 9 ≤ op.toNat / 16 ∨ op.toNat % 16 ≠ 0 ∧ op.toNat / 16 ≠ 2 := by
  simp [Instr.reservesOp]

/-- A byte that is not reserved is that of SENSE with some selector, or that of one of the other eight operations. -/
theorem opByte_cases_of_not_reserved : ∀ op : Byte, Instr.reservesOp op = false →
    op = 2#4 ++ opSelector op ∨ op = 0x00 ∨ op = 0x10 ∨ op = 0x30 ∨ op = 0x40 ∨ op = 0x50 ∨ op = 0x60 ∨ op = 0x70 ∨
      op = 0x80 := by decide

/-! The reader that an op byte selects. -/

theorem opNumber_sense (line : Selector) : opNumber (2#4 ++ line) = 2 := (Laws.OpByte.sense line true none).2.1
theorem opSelector_sense (line : Selector) : opSelector (2#4 ++ line) = line := (Laws.OpByte.sense line true none).2.2

theorem readOperands_reset (bytes : List Byte) : readOperands 0x00 bytes = readReset bytes := rfl
theorem readOperands_cycle (bytes : List Byte) : readOperands 0x10 bytes = readCycle bytes := rfl
theorem readOperands_atnEdge (bytes : List Byte) : readOperands 0x30 bytes = readAtnEdge bytes := rfl
theorem readOperands_portOut (bytes : List Byte) : readOperands 0x40 bytes = readPortOut bytes := rfl
theorem readOperands_gate (bytes : List Byte) : readOperands 0x50 bytes = readGate bytes := rfl
theorem readOperands_refresh (bytes : List Byte) : readOperands 0x60 bytes = readRefresh bytes := rfl
theorem readOperands_sample (bytes : List Byte) : readOperands 0x70 bytes = readSample bytes := rfl
theorem readOperands_rotary (bytes : List Byte) : readOperands 0x80 bytes = readRotary bytes := rfl
theorem readOperands_sense (line : Selector) (bytes : List Byte) :
    readOperands (2#4 ++ line) bytes = readSense line bytes := by
  simp [readOperands, opNumber_sense, opSelector_sense]

/-! Decoding an encoding. -/

theorem readConfig_encodeConfig (c : Config) (rest : List Byte) :
    readConfig (encodeConfig c ++ rest) = some (c, rest) := by
  by_cases hc : c = Config.boot
  · subst hc
    rfl
  · have hflag (bytes : List Byte) : readBool (1#8 :: bytes) = some (true, bytes) := readBool_boolByte true bytes
    simp [readConfig, encodeConfig, hc, hflag, readConfigFields_encode]

theorem readSnap_encodeSnap_nil (snap : Option PortState) : readSnap (encodeSnap snap) = some (snap, []) := by
  have h := readSnap_encodeSnap snap []
  rwa [List.append_nil] at h

/-- R79, R82: the operands of a well-formed instruction are read back from its record, and the record is used up. -/
theorem readOperands_record (i : Instr) (hwf : i.wf = true) : readOperands i.opByte i.record = some (i, []) := by
  cases i with
  | reset c =>
    have hc := readConfig_encodeConfig c []
    rw [List.append_nil] at hc
    rw [Instr.opByte, readOperands_reset]
    simp [Instr.record, readReset, hc]
  | cycle levels snap led sound =>
    rw [Instr.opByte, readOperands_cycle]
    simp [Instr.record, readCycle]
  | sense line raw snap =>
    rw [Instr.opByte, readOperands_sense]
    simp [Instr.record, readSense, readSnap_encodeSnap_nil]
  | atnEdge a snap =>
    rw [Instr.opByte, readOperands_atnEdge]
    simp [Instr.record, readAtnEdge, readSnap_encodeSnap_nil]
  | portOut status dir =>
    rw [Instr.opByte, readOperands_portOut]
    rfl
  | gate o a d =>
    rw [Instr.opByte, readOperands_gate]
    simp [Instr.record, readGate]
  | refresh d k led sound =>
    rw [Instr.opByte, readOperands_refresh]
    simp [Instr.record, readRefresh]
  | sample n raw =>
    rw [Instr.opByte, readOperands_sample]
    simp [Instr.record, readSample]
  | rotary j pressed =>
    rw [Instr.opByte, readOperands_rotary]
    simp [Instr.record, readRotary]
  | reserved op => exact readOperands_reserved hwf []

/-- Settles O55: the reader that the op byte selects takes back the whole record. -/
theorem decodeOfEncode : Obligations.DecodeOfEncode := by
  intro i hwf
  rw [encode, decode, readOperands_record i hwf]

/-! Encoding what was decoded: each reader accepts only what its encoder lays down. -/

/-- The reader `r` accepts nothing but encodings by `enc`, each followed by the bytes it leaves. -/
def Canonical {α : Type} (r : Reader α) (enc : α → List Byte) : Prop :=
  ∀ bytes x rest, r bytes = some (x, rest) → bytes = enc x ++ rest

/-- A bind of the readers succeeds exactly when its first reader and then its second succeed. -/
theorem bind_reader_eq_some {α β : Type} {r : Option (α × List Byte)} {f : α × List Byte → Option β} {y : β} :
    (r >>= f) = some y ↔ ∃ x rest, r = some (x, rest) ∧ f (x, rest) = some y := by
  simp [Option.bind_eq_some_iff]

theorem readByte_canonical : Canonical readByte (fun b => [b]) := by
  rintro (_ | ⟨b, bytes⟩) x rest h
  · cases h
  · cases h
    rfl

theorem readBool_canonical : Canonical readBool (fun b => [boolByte b]) := by
  rintro (_ | ⟨b, bytes⟩) x rest h
  · cases h
  · simp only [readBool] at h
    split_ifs at h with h0 h1
    · cases h
      rw [h0]
      rfl
    · cases h
      rw [h1]
      rfl

/-- Fuel beyond the number does not change its spelling. -/
theorem natBytes_fuel_irrelevant (f g n : Nat) (hf : n ≤ f) (hg : n ≤ g) : natBytes f n = natBytes g n := by
  induction f generalizing g n with
  | zero =>
    obtain rfl : n = 0 := by omega
    cases g <;> rfl
  | succ f ih =>
    cases g with
    | zero =>
      obtain rfl : n = 0 := by omega
      rfl
    | succ g =>
      simp only [natBytes]
      split
      · rfl
      · rw [ih g (n / 128) (by omega) (by omega)]

theorem encodeNat_of_lt {n : Nat} (h : n < 128) : encodeNat n = [BitVec.ofNat 8 n] := by
  cases n with
  | zero => rfl
  | succ n => simp [encodeNat, natBytes, h]

/-- A number with more than one group is its low group, marked, and the spelling of the rest. -/
theorem encodeNat_of_ge {n : Nat} (h : 128 ≤ n) :
    encodeNat n = BitVec.ofNat 8 (n % 128 + 128) :: encodeNat (n / 128) := by
  cases n with
  | zero => omega
  | succ n =>
    rw [encodeNat, natBytes, if_neg (by omega), natBytes_fuel_irrelevant n ((n + 1) / 128) _ (by omega) (by omega)]
    rfl

theorem readNat_canonical : Canonical readNat encodeNat := by
  intro bytes
  induction bytes with
  | nil =>
    intro x rest h
    cases h
  | cons b bytes ih =>
    intro x rest h
    rw [readNat] at h
    split at h
    · next hb =>
      cases h
      rw [encodeNat_of_lt hb, BitVec.ofNat_toNat]
      rfl
    · next hb =>
      split at h
      · cases h
      · next n rest' hn =>
        split at h
        · cases h
        · next h0 =>
          have hlt : b.toNat < 256 := b.isLt
          cases h
          have hlow : (b.toNat - 128 + 128 * n) % 128 + 128 = b.toNat := by omega
          have hhigh : (b.toNat - 128 + 128 * n) / 128 = n := by omega
          rw [encodeNat_of_ge (by omega), hlow, hhigh, BitVec.ofNat_toNat, ih n rest hn]
          rfl

theorem readU32_canonical : Canonical readU32 (fun v => encodeNat v.toNat) := by
  intro bytes x rest h
  obtain ⟨n, bytes', hn, h⟩ := bind_reader_eq_some.1 h
  dsimp only at h
  split at h
  · next hlt =>
    cases h
    dsimp only
    rw [readNat_canonical _ _ _ hn, BitVec.toNat_ofNat, Nat.mod_eq_of_lt hlt]
  · cases h

theorem readMany_canonical {α : Type} {r : Reader α} {enc : α → List Byte} (hr : Canonical r enc) (n : Nat) :
    ∀ bytes xs rest, readMany r n bytes = some (xs, rest) → xs.length = n ∧ bytes = xs.flatMap enc ++ rest := by
  induction n with
  | zero =>
    intro bytes xs rest h
    cases h
    exact ⟨rfl, rfl⟩
  | succ n ih =>
    intro bytes xs rest h
    obtain ⟨x, bytes₁, hx, h⟩ := bind_reader_eq_some.1 h
    obtain ⟨xs', bytes₂, hxs, h⟩ := bind_reader_eq_some.1 h
    cases h
    obtain ⟨hlen, hbytes⟩ := ih _ _ _ hxs
    exact ⟨by simp [hlen], by simp [hr _ _ _ hx, hbytes]⟩

theorem readList_canonical {α : Type} {r : Reader α} {enc : α → List Byte} (hr : Canonical r enc) :
    Canonical (readList r) (encodeList enc) := by
  intro bytes xs rest h
  obtain ⟨n, bytes₁, hn, h⟩ := bind_reader_eq_some.1 h
  obtain ⟨hlen, hbytes⟩ := readMany_canonical hr n _ _ _ h
  rw [readNat_canonical _ _ _ hn, hbytes, encodeList, hlen, List.append_assoc]

theorem readSnap_canonical : Canonical readSnap encodeSnap := by
  intro bytes x rest h
  obtain ⟨absent, bytes₁, h₁, h⟩ := bind_reader_eq_some.1 h
  rw [readBool_canonical _ _ _ h₁]
  cases absent with
  | true =>
    cases h
    rfl
  | false =>
    obtain ⟨dir, bytes₂, h₂, h⟩ := bind_reader_eq_some.1 h
    obtain ⟨out, bytes₃, h₃, h⟩ := bind_reader_eq_some.1 h
    cases h
    rw [readByte_canonical _ _ _ h₂, readByte_canonical _ _ _ h₃]
    rfl

theorem readChipKind_canonical : Canonical readChipKind (fun k => [encodeChipKind k]) := by
  intro bytes x rest h
  obtain ⟨k, bytes₁, h₁, h⟩ := bind_reader_eq_some.1 h
  rw [readByte_canonical _ _ _ h₁]
  have hk (n : Nat) (hn : k.toNat = n) : k = BitVec.ofNat 8 n := by rw [← hn, BitVec.ofNat_toNat]; rfl
  dsimp only at h
  split at h
  · next hn =>
    cases h
    rw [hk 0 hn]
    rfl
  · next hn =>
    cases h
    rw [hk 1 hn]
    rfl
  · next hn =>
    cases h
    rw [hk 2 hn]
    rfl
  · cases h

theorem readPinMap_canonical : Canonical readPinMap encodePinMap := by
  intro bytes x rest h
  obtain ⟨atn, bytes₁, h₁, h⟩ := bind_reader_eq_some.1 h
  obtain ⟨data, bytes₂, h₂, h⟩ := bind_reader_eq_some.1 h
  obtain ⟨clock, bytes₃, h₃, h⟩ := bind_reader_eq_some.1 h
  obtain ⟨srq, bytes₄, h₄, h⟩ := bind_reader_eq_some.1 h
  obtain ⟨reset, bytes₅, h₅, h⟩ := bind_reader_eq_some.1 h
  obtain ⟨outData, bytes₆, h₆, h⟩ := bind_reader_eq_some.1 h
  obtain ⟨outClock, bytes₇, h₇, h⟩ := bind_reader_eq_some.1 h
  obtain ⟨led, bytes₈, h₈, h⟩ := bind_reader_eq_some.1 h
  obtain ⟨sound, bytes₉, h₉, h⟩ := bind_reader_eq_some.1 h
  cases h
  have hnat := readNat_canonical
  simp only [encodePinMap, List.append_assoc]
  rw [hnat _ _ _ h₁, hnat _ _ _ h₂, hnat _ _ _ h₃, hnat _ _ _ h₄, hnat _ _ _ h₅, hnat _ _ _ h₆, hnat _ _ _ h₇,
    hnat _ _ _ h₈, hnat _ _ _ h₉]

theorem readPortMap_canonical : Canonical readPortMap encodePortMap := by
  intro bytes x rest h
  obtain ⟨dataIn, bytes₁, h₁, h⟩ := bind_reader_eq_some.1 h
  obtain ⟨dataOut, bytes₂, h₂, h⟩ := bind_reader_eq_some.1 h
  obtain ⟨clockIn, bytes₃, h₃, h⟩ := bind_reader_eq_some.1 h
  obtain ⟨clockOut, bytes₄, h₄, h⟩ := bind_reader_eq_some.1 h
  obtain ⟨atnaOut, bytes₅, h₅, h⟩ := bind_reader_eq_some.1 h
  obtain ⟨atnIn, bytes₆, h₆, h⟩ := bind_reader_eq_some.1 h
  cases h
  have hnat := readNat_canonical
  simp only [encodePortMap, List.append_assoc]
  rw [hnat _ _ _ h₁, hnat _ _ _ h₂, hnat _ _ _ h₃, hnat _ _ _ h₄, hnat _ _ _ h₅, hnat _ _ _ h₆]

theorem readButton_canonical : Canonical readButton encodeButton := by
  intro bytes x rest h
  obtain ⟨pin, bytes₁, h₁, h⟩ := bind_reader_eq_some.1 h
  obtain ⟨threshold, bytes₂, h₂, h⟩ := bind_reader_eq_some.1 h
  cases h
  rw [readNat_canonical _ _ _ h₁, readU32_canonical _ _ _ h₂, encodeButton, List.append_assoc]

theorem readRotaryPair_canonical : Canonical readRotaryPair encodeRotaryPair := by
  intro bytes x rest h
  obtain ⟨primary, bytes₁, h₁, h⟩ := bind_reader_eq_some.1 h
  obtain ⟨secondary, bytes₂, h₂, h⟩ := bind_reader_eq_some.1 h
  obtain ⟨nextPrev, bytes₃, h₃, h⟩ := bind_reader_eq_some.1 h
  cases h
  rw [readNat_canonical _ _ _ h₁, readNat_canonical _ _ _ h₂, readBool_canonical _ _ _ h₃]
  have hkind : ((if nextPrev then RotaryKind.nextPrev else .upDown) == .nextPrev) = nextPrev := by
    cases nextPrev <;> rfl
  simp [encodeRotaryPair, hkind]

theorem readConfigFields_canonical : Canonical readConfigFields encodeConfigFields := by
  intro bytes x rest h
  obtain ⟨invertInputs, bytes₁, h₁, h⟩ := bind_reader_eq_some.1 h
  obtain ⟨invertOutputs, bytes₂, h₂, h⟩ := bind_reader_eq_some.1 h
  obtain ⟨splitLines, bytes₃, h₃, h⟩ := bind_reader_eq_some.1 h
  obtain ⟨ignoreReset, bytes₄, h₄, h⟩ := bind_reader_eq_some.1 h
  obtain ⟨chipKind, bytes₅, h₅, h⟩ := bind_reader_eq_some.1 h
  obtain ⟨pinMap, bytes₆, h₆, h⟩ := bind_reader_eq_some.1 h
  obtain ⟨portMap, bytes₇, h₇, h⟩ := bind_reader_eq_some.1 h
  obtain ⟨pinWidth, bytes₈, h₈, h⟩ := bind_reader_eq_some.1 h
  obtain ⟨pressedLevel, bytes₉, h₉, h⟩ := bind_reader_eq_some.1 h
  obtain ⟨buttons, bytes₁₀, h₁₀, h⟩ := bind_reader_eq_some.1 h
  obtain ⟨rotaryPairs, bytes₁₁, h₁₁, h⟩ := bind_reader_eq_some.1 h
  cases h
  have hbool := readBool_canonical
  rw [hbool _ _ _ h₁, hbool _ _ _ h₂, hbool _ _ _ h₃, hbool _ _ _ h₄, readChipKind_canonical _ _ _ h₅,
    readPinMap_canonical _ _ _ h₆, readPortMap_canonical _ _ _ h₇, readNat_canonical _ _ _ h₈, hbool _ _ _ h₉,
    readList_canonical readButton_canonical _ _ _ h₁₀, readList_canonical readRotaryPair_canonical _ _ _ h₁₁]
  simp [encodeConfigFields]

theorem readConfig_canonical : Canonical readConfig encodeConfig := by
  intro bytes x rest h
  obtain ⟨explicit, bytes₁, h₁, h⟩ := bind_reader_eq_some.1 h
  rw [readBool_canonical _ _ _ h₁]
  cases explicit with
  | false =>
    cases h
    rfl
  | true =>
    obtain ⟨c, bytes₂, h₂, h⟩ := bind_reader_eq_some.1 h
    dsimp only at h
    split at h
    · cases h
    · next hc =>
      cases h
      rw [encodeConfig, if_neg hc, readConfigFields_canonical _ _ _ h₂]
      rfl

/-- What the readers of the operand records share: the instruction they give has this op byte, is well-formed, and its
record is what was read. -/
def ReadsRecordOf (op : Byte) (r : Reader Instr) : Prop :=
  ∀ bytes i rest, r bytes = some (i, rest) →
    i.opByte = op ∧ i.wf = true ∧ (∀ op', i ≠ .reserved op') ∧ bytes = i.record ++ rest

theorem readReset_readsRecord : ReadsRecordOf 0x00 readReset := by
  intro bytes i rest h
  obtain ⟨c, bytes₁, h₁, h⟩ := bind_reader_eq_some.1 h
  cases h
  exact ⟨rfl, rfl, by simp, readConfig_canonical _ _ _ h₁⟩

theorem readCycle_readsRecord : ReadsRecordOf 0x10 readCycle := by
  intro bytes i rest h
  obtain ⟨levels, bytes₁, h₁, h⟩ := bind_reader_eq_some.1 h
  obtain ⟨snap, bytes₂, h₂, h⟩ := bind_reader_eq_some.1 h
  obtain ⟨led, bytes₃, h₃, h⟩ := bind_reader_eq_some.1 h
  obtain ⟨sound, bytes₄, h₄, h⟩ := bind_reader_eq_some.1 h
  cases h
  refine ⟨rfl, rfl, by simp, ?_⟩
  rw [readNat_canonical _ _ _ h₁, readSnap_canonical _ _ _ h₂, readBool_canonical _ _ _ h₃,
    readBool_canonical _ _ _ h₄]
  simp [Instr.record]

theorem readSense_readsRecord (line : Selector) : ReadsRecordOf (2#4 ++ line) (readSense line) := by
  intro bytes i rest h
  obtain ⟨raw, bytes₁, h₁, h⟩ := bind_reader_eq_some.1 h
  obtain ⟨snap, bytes₂, h₂, h⟩ := bind_reader_eq_some.1 h
  cases h
  refine ⟨rfl, rfl, by simp, ?_⟩
  rw [readBool_canonical _ _ _ h₁, readSnap_canonical _ _ _ h₂]
  rfl

theorem readAtnEdge_readsRecord : ReadsRecordOf 0x30 readAtnEdge := by
  intro bytes i rest h
  obtain ⟨a, bytes₁, h₁, h⟩ := bind_reader_eq_some.1 h
  obtain ⟨snap, bytes₂, h₂, h⟩ := bind_reader_eq_some.1 h
  cases h
  refine ⟨rfl, rfl, by simp, ?_⟩
  rw [readBool_canonical _ _ _ h₁, readSnap_canonical _ _ _ h₂]
  rfl

theorem readPortOut_readsRecord : ReadsRecordOf 0x40 readPortOut := by
  intro bytes i rest h
  obtain ⟨status, bytes₁, h₁, h⟩ := bind_reader_eq_some.1 h
  obtain ⟨dir, bytes₂, h₂, h⟩ := bind_reader_eq_some.1 h
  cases h
  refine ⟨rfl, rfl, by simp, ?_⟩
  rw [readByte_canonical _ _ _ h₁, readByte_canonical _ _ _ h₂]
  rfl

theorem readGate_readsRecord : ReadsRecordOf 0x50 readGate := by
  intro bytes i rest h
  obtain ⟨o, bytes₁, h₁, h⟩ := bind_reader_eq_some.1 h
  obtain ⟨a, bytes₂, h₂, h⟩ := bind_reader_eq_some.1 h
  obtain ⟨d, bytes₃, h₃, h⟩ := bind_reader_eq_some.1 h
  cases h
  refine ⟨rfl, rfl, by simp, ?_⟩
  rw [readBool_canonical _ _ _ h₁, readBool_canonical _ _ _ h₂, readBool_canonical _ _ _ h₃]
  rfl

theorem readRefresh_readsRecord : ReadsRecordOf 0x60 readRefresh := by
  intro bytes i rest h
  obtain ⟨d, bytes₁, h₁, h⟩ := bind_reader_eq_some.1 h
  obtain ⟨k, bytes₂, h₂, h⟩ := bind_reader_eq_some.1 h
  obtain ⟨led, bytes₃, h₃, h⟩ := bind_reader_eq_some.1 h
  obtain ⟨sound, bytes₄, h₄, h⟩ := bind_reader_eq_some.1 h
  cases h
  refine ⟨rfl, rfl, by simp, ?_⟩
  rw [readBool_canonical _ _ _ h₁, readBool_canonical _ _ _ h₂, readBool_canonical _ _ _ h₃,
    readBool_canonical _ _ _ h₄]
  rfl

theorem readSample_readsRecord : ReadsRecordOf 0x70 readSample := by
  intro bytes i rest h
  obtain ⟨n, bytes₁, h₁, h⟩ := bind_reader_eq_some.1 h
  obtain ⟨raw, bytes₂, h₂, h⟩ := bind_reader_eq_some.1 h
  cases h
  refine ⟨rfl, rfl, by simp, ?_⟩
  rw [readNat_canonical _ _ _ h₁, readBool_canonical _ _ _ h₂]
  simp [Instr.record]

theorem readRotary_readsRecord : ReadsRecordOf 0x80 readRotary := by
  intro bytes i rest h
  obtain ⟨j, bytes₁, h₁, h⟩ := bind_reader_eq_some.1 h
  obtain ⟨pressed, bytes₂, h₂, h⟩ := bind_reader_eq_some.1 h
  cases h
  refine ⟨rfl, rfl, by simp, ?_⟩
  rw [readNat_canonical _ _ _ h₁, readBool_canonical _ _ _ h₂]
  simp [Instr.record]

/-- An op byte that names an operation is followed by exactly that operation's record (R79, R82). -/
theorem readOperands_readsRecord {op : Byte} (hop : Instr.reservesOp op = false) : ReadsRecordOf op (readOperands op) := by
  rcases opByte_cases_of_not_reserved op hop with h | rfl | rfl | rfl | rfl | rfl | rfl | rfl | rfl
  · rw [h]
    intro bytes i rest hread
    rw [readOperands_sense] at hread
    exact readSense_readsRecord _ bytes i rest hread
  · exact readReset_readsRecord
  · exact readCycle_readsRecord
  · exact readAtnEdge_readsRecord
  · exact readPortOut_readsRecord
  · exact readGate_readsRecord
  · exact readRefresh_readsRecord
  · exact readSample_readsRecord
  · exact readRotary_readsRecord

/-- What a decoded call can be: a reserved op byte and whatever follows it, or an operation's own encoding. -/
theorem decode_ok_cases {op : Byte} {bytes : List Byte} {i : Instr} (h : decode (op :: bytes) = .ok i) :
    (Instr.reservesOp op = true ∧ i = .reserved op) ∨
    (i.wf = true ∧ (∀ op', i ≠ .reserved op') ∧ op :: bytes = encode i) := by
  cases hop : Instr.reservesOp op with
  | true =>
    rw [decode, readOperands_reserved hop] at h
    cases h
    exact .inl ⟨rfl, rfl⟩
  | false =>
    rw [decode] at h
    split at h
    · next i' hread =>
      cases h
      obtain ⟨hbyte, hwf, hne, hbytes⟩ := readOperands_readsRecord hop _ _ _ hread
      exact .inr ⟨hwf, hne, by rw [encode, hbyte, hbytes, List.append_nil]⟩
    · cases h

/-- Settles O56: every reader accepts only what its encoder lays down. -/
theorem encodeOfDecode : Obligations.EncodeOfDecode := by
  rintro (_ | ⟨op, bytes⟩) i h
  · cases h
  · rcases decode_ok_cases h with ⟨hop, rfl⟩ | ⟨hwf, -, hbytes⟩
    · exact ⟨hop, bytes, rfl, fun hne => absurd rfl (hne op)⟩
    · exact ⟨hwf, [], by rw [List.append_nil, hbytes], fun _ => rfl⟩

/-- Settles O57: what decodes is `reserved` of its op byte, or its own encoding, which begins with its op byte. -/
theorem opByteNamesTheOperation : Obligations.OpByteNamesTheOperation := by
  intro op bytes
  refine ⟨fun i h => ?_, fun hop => ?_⟩
  · rcases decode_ok_cases h with ⟨-, rfl⟩ | ⟨-, -, hbytes⟩
    · rfl
    · exact (List.cons.inj hbytes).1.symm
  · rw [decode, readOperands_reserved ((reservesOp_iff_arith op).2 hop)]

/-- Settles O58: each record is read by computation. -/
theorem specOpBytesDecode : Obligations.SpecOpBytesDecode := by
  unfold Obligations.SpecOpBytesDecode
  decide

/-- Settles O54: the call at the head of the list decodes to the instruction it encodes. -/
theorem stepRunsTheDecodedCall : Obligations.StepRunsTheDecodedCall := by
  intro i s rest hwf hcalls
  have hnext : nextCall s = .call i rest := by
    simp only [nextCall, hcalls, decodeOfEncode i hwf]
  simp only [step, hnext]
  rfl

end Sys2Proof.Proofs
end

-- ==== Proofs: Operations on a running session ====
section
/-! What each operation answers on a running session with operands it does not refuse: the converse of the inversions
of Sys2Proof/Laws/Cycle.lean. -/

namespace Sys2Proof.Proofs

open Sys2Proof Sys2Proof.Machine Sys2Proof.Statements

/-- R203, in the form of the statements. -/
theorem snapshotMatches_eq_true {c : Config} {snap : Option PortState}
    (h : snap.isSome = decide (c.chipKind ≠ .absent)) : snapshotMatches c snap = true := by
  cases hk : c.chipKind <;> simp [snapshotMatches, chipAttached, h, hk]

theorem snapshotMatches_eq_false {c : Config} {snap : Option PortState}
    (h : snap.isSome ≠ decide (c.chipKind ≠ .absent)) : snapshotMatches c snap = false := by
  cases hk : c.chipKind <;> cases snap <;> simp_all [snapshotMatches, chipAttached]

/-- With a snapshot that matches, a chip is attached exactly when there is one. -/
theorem chipAttached_of_some {c : Config} {p : PortState} (h : snapshotMatches c (some p) = true) :
    chipAttached c = true := by rwa [snapshotMatches_some] at h

theorem snapshotMatches_of_attached {c : Config} (h : c.chipKind ≠ .absent) (p : PortState) :
    snapshotMatches c (some p) = true := by rwa [snapshotMatches_some, chipAttached_iff]

theorem chipAttached_of_absent {c : Config} (h : c.chipKind = .absent) : chipAttached c = false := by
  simp [chipAttached, h]

theorem snapshotMatches_of_absent {c : Config} (h : c.chipKind = .absent) : snapshotMatches c none = true := by
  rw [snapshotMatches_none, chipAttached_of_absent h]
  rfl

section
variable {c : Config} {s : State} (hs : Ready c s)
include hs

theorem exec_sense_ready {sel : Selector} {l : LineId} (hl : LineId.ofSelector sel = some l) (raw : Bool)
    {snap : Option PortState} (hsnap : l = .atn → snapshotMatches c snap = true) :
    exec (.sense sel raw snap) s = .next ((senseLine c l raw snap { s with out := .empty }).withResult
      (.sensed ((senseLine c l raw snap { s with out := .empty }).sensedHigh l)
        ((senseLine c l raw snap { s with out := .empty }).asserted l))) := by
  have hok : ¬ (l = .atn ∧ snapshotMatches c snap = false) := fun h => by simp [hsnap h.1] at h
  change execSense sel raw snap s = _
  rw [execSense, enter_running _ hs.1 hs.2]
  simp only [hl, if_neg hok]

theorem exec_atnEdge_ready (a : Bool) {snap : Option PortState} (hsnap : snapshotMatches c snap = true) :
    exec (.atnEdge a snap) s = .next (atnTransition c a snap { s with out := .empty }) := by
  change execAtnEdge a snap s = _
  rw [execAtnEdge, enter_running _ hs.1 hs.2, if_pos hsnap]

theorem exec_portOut_ready (status dir : Byte) (hchip : chipAttached c = true) :
    exec (.portOut status dir) s = .next (decodePort c status dir { s with out := .empty }) := by
  change execPortOut status dir s = _
  rw [execPortOut, enter_running _ hs.1 hs.2, if_pos hchip]

theorem exec_sample_ready {i : Nat} (hi : i < nButtons c) (raw : Bool) :
    exec (.sample i raw) s = .next (sampleButton c i raw { s with out := .empty }) := by
  change execSample i raw s = _
  rw [execSample, enter_running _ hs.1 hs.2, if_pos hi]

theorem exec_rotary_ready {j : Nat} {r : RotaryPair} (hr : c.rotaryPairs[j]? = some r) (pressed : Bool) :
    exec (.rotary j pressed) s = .next (rotaryPair c j r pressed { s with out := .empty }) := by
  change execRotary j pressed s = _
  rw [execRotary, enter_running _ hs.1 hs.2]
  simp only [hr]

theorem exec_cycle_ready (levels : Mask) {snap : Option PortState} (led sound : Bool)
    (hsnap : snapshotMatches c snap = true) :
    exec (.cycle levels snap led sound) s =
      .next (cycleSteps c (pinLevels c levels) snap led sound { s with out := .empty }) := by
  change execCycle levels snap led sound s = _
  rw [execCycle, enter_running _ hs.1 hs.2, if_pos hsnap]

end

theorem exec_reset_admitted {c : Config} {s : State} (hm : s.mark = none) (hc : configAdmitted c = true) :
    exec (.reset c) s = .next (resetWith c s) := by
  change execReset c s = _
  simp [execReset, hm, hc]

end Sys2Proof.Proofs
end

-- ==== Proofs: Refusals by every operation ====
section
/-! The closed list of refusals (R200 to R207): which operands are refused by which name, and that an operation which
does not complete leaves nothing but a mark. -/

namespace Sys2Proof.Proofs

open Sys2Proof Sys2Proof.Machine Sys2Proof.Statements

/-! Operands that are refused by name. -/

theorem ofSelector_eq_none : ∀ sel : Selector, 4 < sel.toNat → LineId.ofSelector sel = none := by decide

/-- Settles O12: the selector names no line, or the index is not below `N_BUTTONS`, so the check of the operation
fails. -/
theorem invalidLineAndPinAreRefused : Obligations.InvalidLineAndPinAreRefused := by
  intro c s raw hs
  refine ⟨fun sel snap hsel => ?_, fun i hi => ?_⟩
  · change execSense sel raw snap s = _
    rw [execSense, enter_running _ hs.1 hs.2]
    simp only [ofSelector_eq_none sel hsel]
    rfl
  · change execSample i raw s = _
    rw [execSample, enter_running _ hs.1 hs.2, if_neg (show ¬ i < nButtons c from Nat.not_lt.2 hi)]
    rfl

/-- Settles O13: all three operations look at the snapshot before they write anything. -/
theorem snapshotMismatchIsRefused : Obligations.SnapshotMismatchIsRefused := by
  intro c s snap hs hsnap
  have hfalse : snapshotMatches c snap = false := snapshotMatches_eq_false hsnap
  have hne : ¬ snapshotMatches c snap = true := by simp [hfalse]
  refine ⟨fun levels led sound => ?_, fun a => ?_, fun raw => ?_⟩
  · change execCycle levels snap led sound s = _
    rw [execCycle, enter_running _ hs.1 hs.2, if_neg hne]
    rfl
  · change execAtnEdge a snap s = _
    rw [execAtnEdge, enter_running _ hs.1 hs.2, if_neg hne]
    rfl
  · have hline : LineId.ofSelector 0 = some .atn := rfl
    change execSense 0 raw snap s = _
    rw [execSense, enter_running _ hs.1 hs.2]
    simp only [hline, hfalse, and_self, if_true]
    rfl

/-! Every operation but RESET begins with `State.enter`. -/

theorem exec_eq_enter {i : Instr} (hi : ∀ c, i ≠ .reset c) : ∃ run, ∀ s, exec i s = s.enter run := by
  cases i with
  | reset c => exact absurd rfl (hi c)
  | cycle levels snap led sound => exact ⟨_, fun s => Eq.refl (execCycle levels snap led sound s)⟩
  | sense sel raw snap => exact ⟨_, fun s => Eq.refl (execSense sel raw snap s)⟩
  | atnEdge a snap => exact ⟨_, fun s => Eq.refl (execAtnEdge a snap s)⟩
  | portOut status dir => exact ⟨_, fun s => Eq.refl (execPortOut status dir s)⟩
  | gate o a d => exact ⟨_, fun s => Eq.refl (execGate o a d s)⟩
  | refresh d k led sound => exact ⟨_, fun s => Eq.refl (execRefresh d k led sound s)⟩
  | sample n raw => exact ⟨_, fun s => Eq.refl (execSample n raw s)⟩
  | rotary j pressed => exact ⟨_, fun s => Eq.refl (execRotary j pressed s)⟩
  | reserved op => exact ⟨_, fun s => Eq.refl (execReserved op s)⟩

/-- Settles O50: before the first RESET `State.enter` refuses whatever the operation would do. -/
theorem everyOperationNeedsAReset : Obligations.EveryOperationNeedsAReset := by
  intro i s hm hc hi
  obtain ⟨run, hrun⟩ := exec_eq_enter hi
  rw [hrun, enter_notReset run hm hc, refuse_eq]
  rfl

theorem exec_marked {s : State} {r : Reason} (hm : s.mark = some r) (i : Instr) : exec i s = s.refuse r := by
  by_cases hi : ∀ c, i ≠ .reset c
  · obtain ⟨run, hrun⟩ := exec_eq_enter hi
    rw [hrun, enter_marked run hm]
  · obtain ⟨c, rfl⟩ : ∃ c, i = .reset c := by simpa using hi
    change execReset c s = _
    simp [execReset, hm]

/-- R201: refusing a marked state by its own mark changes the output alone. -/
theorem refuse_of_marked {s : State} {r : Reason} (hm : s.mark = some r) :
    s.refuse r = .refused (r.refusal { s with out := ⟨[], [], .nothing⟩ }) := by
  rw [refuse_eq, ← hm]

/-- Settles O52: operations, malformed calls and idle steps all look at the mark first. -/
theorem refusalMarkIsSticky : Obligations.RefusalMarkIsSticky := by
  intro s r hm
  refine ⟨fun i => by rw [exec_marked hm, refuse_of_marked hm], ?_⟩
  cases hnext : nextCall s with
  | idle =>
    refine ⟨s.calls, ?_⟩
    rw [← refuse_of_marked hm]
    simp only [step, hnext, idleStep, hm]
  | malformed why =>
    refine ⟨s.calls, ?_⟩
    rw [← refuse_of_marked hm]
    simp only [step, hnext, notACall, hm]
  | call i rest =>
    refine ⟨rest, ?_⟩
    simp only [step, hnext]
    rw [exec_marked (s := s.withCalls rest) hm, refuse_of_marked (s := s.withCalls rest) hm]
    rfl

/-- Settles O51: a reserved op byte has no meaning to run, and it decodes to `reserved` whatever follows it. -/
theorem reservedOpcodeIsRefused : Obligations.ReservedOpcodeIsRefused := by
  intro c s op hs
  have hexec : ∀ u : State, Ready c u → exec (.reserved op) u = u.refuse .reservedOpcode := by
    intro u hu
    change execReserved op u = _
    rw [execReserved, enter_running _ hu.1 hu.2]
    rfl
  refine ⟨by rw [hexec s hs, refuse_eq]; rfl, fun unread rest hop hcalls => ?_⟩
  have hnext : nextCall s = .call (.reserved op) rest := by
    simp only [nextCall, hcalls, (opByteNamesTheOperation op unread).2 hop]
  simp only [step, hnext]
  rw [hexec (s.withCalls rest) hs]
  rfl

/-! No other way to stop. -/

/-- An outcome that is a next state, or the refusal of `s` for some reason. -/
def NextOrRefusalOf (s : State) (o : StepOutcome) : Prop := (∃ t, o = .next t) ∨ ∃ r, o = s.refuse r

theorem next_nextOrRefusal (s t : State) : NextOrRefusalOf s (.next t) := .inl ⟨t, rfl⟩

theorem refuse_nextOrRefusal (s : State) (r : Reason) : NextOrRefusalOf s (s.refuse r) := .inr ⟨r, rfl⟩

theorem enter_nextOrRefusal {s : State} {run : Config → State → StepOutcome}
    (h : ∀ c, NextOrRefusalOf s (run c { s with out := .empty })) : NextOrRefusalOf s (s.enter run) := by
  unfold State.enter
  split
  · exact refuse_nextOrRefusal ..
  · split
    · exact refuse_nextOrRefusal ..
    · exact h _

/-- An operation with one check: it completes, or it refuses for one reason. -/
theorem ite_nextOrRefusal {s : State} {p : Prop} [Decidable p] {t : State} {r : Reason} :
    NextOrRefusalOf s (if p then .next t else State.refuse { s with out := .empty } r) := by
  split
  · exact next_nextOrRefusal ..
  · exact refuse_nextOrRefusal ..

theorem execReset_nextOrRefusal (c : Config) (s : State) : NextOrRefusalOf s (execReset c s) := by
  unfold execReset
  split
  · exact refuse_nextOrRefusal ..
  · split
    · exact next_nextOrRefusal ..
    · exact refuse_nextOrRefusal ..

theorem execSense_nextOrRefusal (sel : Selector) (raw : Bool) (snap : Option PortState) (s : State) :
    NextOrRefusalOf s (execSense sel raw snap s) := by
  refine enter_nextOrRefusal fun c => ?_
  dsimp only
  split
  · exact refuse_nextOrRefusal s _
  · split
    · exact refuse_nextOrRefusal s _
    · exact next_nextOrRefusal ..

theorem execRotary_nextOrRefusal (j : Nat) (pressed : Bool) (s : State) :
    NextOrRefusalOf s (execRotary j pressed s) := by
  refine enter_nextOrRefusal fun c => ?_
  split
  · exact refuse_nextOrRefusal s _
  · exact next_nextOrRefusal ..

theorem exec_nextOrRefusal (i : Instr) (s : State) : NextOrRefusalOf s (exec i s) := by
  cases i with
  | reset c => exact execReset_nextOrRefusal c s
  | cycle levels snap led sound =>
    change NextOrRefusalOf s (execCycle levels snap led sound s)
    exact enter_nextOrRefusal fun _ => ite_nextOrRefusal
  | sense sel raw snap => exact execSense_nextOrRefusal sel raw snap s
  | atnEdge a snap =>
    change NextOrRefusalOf s (execAtnEdge a snap s)
    exact enter_nextOrRefusal fun _ => ite_nextOrRefusal
  | portOut status dir =>
    change NextOrRefusalOf s (execPortOut status dir s)
    exact enter_nextOrRefusal fun _ => ite_nextOrRefusal
  | gate o a d =>
    change NextOrRefusalOf s (execGate o a d s)
    exact enter_nextOrRefusal fun _ => next_nextOrRefusal ..
  | refresh d k led sound =>
    change NextOrRefusalOf s (execRefresh d k led sound s)
    exact enter_nextOrRefusal fun _ => next_nextOrRefusal ..
  | sample n raw =>
    change NextOrRefusalOf s (execSample n raw s)
    exact enter_nextOrRefusal fun _ => ite_nextOrRefusal
  | rotary j pressed => exact execRotary_nextOrRefusal j pressed s
  | reserved op =>
    change NextOrRefusalOf s (execReserved op s)
    exact enter_nextOrRefusal fun _ => refuse_nextOrRefusal s _

/-- Settles O53: every operation ends in its next state or in `State.refuse`, which writes the mark and the output. -/
theorem refusalChangesNothingElse : Obligations.RefusalChangesNothingElse := by
  intro i s
  rcases exec_nextOrRefusal i s with h | ⟨r, h⟩
  · exact .inl h
  · exact .inr ⟨r, by rw [h, refuse_eq]⟩

end Sys2Proof.Proofs
end

-- ==== Proofs: What every operation keeps ====
section
/-! The operations of a session are made of ten state changes; what each of them keeps, every operation but RESET keeps.
The statements that speak of every operation are proved through this. -/

namespace Sys2Proof.Proofs

open Sys2Proof Sys2Proof.Machine Sys2Proof.Statements

/-- `P` is kept by every state change that an operation of a session with configuration `c` is made of. -/
structure KeptByParts (c : Config) (P : State → Prop) : Prop where
  clear : ∀ s, P s → P { s with out := .empty }
  result : ∀ r s, P s → P (s.withResult r)
  read : ∀ levels s, P s → P (s.readPinLevels levels)
  sample : ∀ i raw s, i < nButtons c → P s → P (sampleButton c i raw s)
  rotary : ∀ j r pressed s, P s → P (rotaryPair c j r pressed s)
  sense : ∀ l raw snap s, (l = .atn → snapshotMatches c snap = true) → P s → P (senseLine c l raw snap s)
  atn : ∀ a snap s, snapshotMatches c snap = true → P s → P (atnTransition c a snap s)
  propagate : ∀ s, P s → P (propagateInputs c s)
  decode : ∀ status dir s, chipAttached c = true → P s → P (decodePort c status dir s)
  refresh : ∀ d k led sound s, P s → P (refreshPins c d k led sound s)

namespace KeptByParts

variable {c : Config} {P : State → Prop} (hP : KeptByParts c P)
include hP

theorem sampleAll (levels : Mask) {s : State} (hs : P s) : P (sampleAll c levels s) := by
  have hlt : ∀ i ∈ List.range (nButtons c), i < nButtons c := fun i => List.mem_range.1
  unfold Machine.sampleAll
  revert hlt
  induction List.range (nButtons c) generalizing s with
  | nil => exact fun _ => hs
  | cons i is ih =>
    intro hlt
    exact ih (hP.sample i _ s (hlt i List.mem_cons_self) hs) fun j hj => hlt j (List.mem_cons_of_mem i hj)

theorem rotaryAll {s : State} (hs : P s) : P (rotaryAll c s) := by
  unfold Machine.rotaryAll
  induction List.range c.rotaryPairs.length generalizing s with
  | nil => exact hs
  | cons j js ih =>
    refine ih ?_
    unfold rotaryOf
    split
    · exact hs
    · exact hP.rotary _ _ _ _ hs

theorem sensingPhase (levels : Mask) {snap : Option PortState} (hsnap : snapshotMatches c snap = true) {s : State}
    (hs : P s) : P (sensingPhase c levels snap s) :=
  sensingPhase_keeps (fun l raw s => hP.sense l raw snap s fun _ => hsnap) levels hs

theorem decodeIfChanged {snap : Option PortState} (hsnap : snapshotMatches c snap = true) {s : State} (hs : P s) :
    P (decodeIfChanged c snap s) := by
  cases snap with
  | none => exact hs
  | some p =>
    simp only [Machine.decodeIfChanged]
    split
    · exact hs
    · exact hP.decode _ _ _ (chipAttached_of_some hsnap) hs

theorem stateToRefresh (levels : Mask) {snap : Option PortState} (hsnap : snapshotMatches c snap = true) {s : State}
    (hs : P s) : P (stateToRefresh c levels snap s) :=
  have hsampled := hP.rotaryAll (hP.sampleAll levels (hP.read levels s hs))
  have hsensed := hP.sensingPhase levels hsnap hsampled
  hP.propagate _ (hP.decodeIfChanged hsnap (hP.propagate _ hsensed))

theorem cycleSteps (levels : Mask) {snap : Option PortState} (led sound : Bool)
    (hsnap : snapshotMatches c snap = true) {s : State} (hs : P s) : P (cycleSteps c levels snap led sound s) := by
  rw [cycleSteps_eq]
  exact hP.result _ _ (hP.refresh _ _ _ _ _ (hP.stateToRefresh levels hsnap hs))

/-- What the parts keep, every operation but RESET keeps from the state it begins its work on. -/
theorem exec_of_clear {i : Instr} {s t : State} (hc : s.cfg = some c) (hi : ∀ c', i ≠ .reset c')
    (h : exec i s = .next t) (hclear : P { s with out := .empty }) : P t := by
  have hcfg : ∀ {c'}, s.cfg = some c' → c' = c := fun hc' => Option.some.inj (hc'.symm.trans hc)
  cases i with
  | reset c' => exact absurd rfl (hi c')
  | cycle levels snap led sound =>
    obtain ⟨-, c', hc', hsnap, rfl⟩ := execCycle_next h
    obtain rfl := hcfg hc'
    exact hP.cycleSteps _ led sound hsnap hclear
  | sense sel raw snap =>
    obtain ⟨-, c', l, hc', -, hsnap, rfl⟩ := execSense_next h
    obtain rfl := hcfg hc'
    exact hP.result _ _ (hP.sense l raw snap _ hsnap hclear)
  | atnEdge a snap =>
    obtain ⟨-, c', hc', hsnap, rfl⟩ := execAtnEdge_next h
    obtain rfl := hcfg hc'
    exact hP.atn a snap _ hsnap hclear
  | portOut status dir =>
    obtain ⟨-, c', hc', hchip, rfl⟩ := execPortOut_next h
    obtain rfl := hcfg hc'
    exact hP.decode status dir _ hchip hclear
  | gate o a d =>
    obtain ⟨-, c', -, rfl⟩ := execGate_next h
    exact hP.result _ _ hclear
  | refresh d k led sound =>
    obtain ⟨-, c', hc', rfl⟩ := execRefresh_next h
    obtain rfl := hcfg hc'
    exact hP.result _ _ (hP.refresh d k led sound _ hclear)
  | sample n raw =>
    obtain ⟨-, c', hc', hn, rfl⟩ := execSample_next h
    obtain rfl := hcfg hc'
    exact hP.sample n raw _ hn hclear
  | rotary j pressed =>
    obtain ⟨-, c', r, hc', -, rfl⟩ := execRotary_next h
    obtain rfl := hcfg hc'
    exact hP.rotary j r pressed _ hclear
  | reserved op => exact absurd h (execReserved_never_next (op := op))

/-- What the parts keep, every operation but RESET keeps. -/
theorem exec {i : Instr} {s t : State} (hc : s.cfg = some c) (hi : ∀ c', i ≠ .reset c') (h : exec i s = .next t)
    (hs : P s) : P t :=
  hP.exec_of_clear hc hi h (hP.clear s hs)

end KeptByParts

/-- An operation that completes has found no mark, and, if it is not RESET, a configuration. -/
theorem exec_next_ready {i : Instr} {s t : State} (hi : ∀ c, i ≠ .reset c) (h : exec i s = .next t) :
    ∃ c, Ready c s := by
  obtain ⟨run, hrun⟩ := exec_eq_enter hi
  obtain ⟨hm, c, hc, -⟩ := enter_next ((hrun s).symm.trans h)
  exact ⟨c, hm, hc⟩

/-- An instruction is a RESET or it is not. -/
theorem reset_or_not (i : Instr) : (∃ c, i = .reset c) ∨ ∀ c, i ≠ .reset c := by
  by_cases hi : ∃ c, i = .reset c
  · exact .inl hi
  · exact .inr fun c hc => hi ⟨c, hc⟩

/-! Configuration, mark and calls. -/

theorem sameControl_kept (c : Config) (s : State) :
    KeptByParts c fun t => t.mark = none ∧ t.calls = s.calls ∧ t.cfg = s.cfg where
  clear _ h := h
  result _ _ h := h
  read _ _ h := h
  sample _ _ _ _ h := by simpa using h
  rotary _ _ _ _ h := by simpa using h
  sense _ _ _ _ _ h := by simpa using h
  atn _ _ _ _ h := by simpa using h
  propagate _ h := by simpa using h
  decode _ _ _ _ h := h
  refresh _ _ _ _ _ h := by simpa using h

/-- Settles O44: no part of an operation writes the configuration, the mark or the calls, and RESET writes the first
two. -/
theorem onlyResetWritesConfiguration : Obligations.OnlyResetWritesConfiguration := by
  intro i s t h
  rcases reset_or_not i with ⟨c, rfl⟩ | hi
  · obtain ⟨-, -, rfl⟩ := execReset_next h
    obtain ⟨-, -, -, -, -, -, -, hmark, hcalls⟩ := resetWith_frame c s
    exact ⟨hmark, hcalls, fun hne => absurd rfl (hne c)⟩
  · obtain ⟨c, hm, hc⟩ := exec_next_ready hi h
    obtain ⟨hmark, hcalls, hcfg⟩ := (sameControl_kept c s).exec hc hi h ⟨hm, rfl, rfl⟩
    exact ⟨hmark, hcalls, fun _ => hcfg⟩

/-! DATA's total pull (R132). -/

theorem dataPullTotal_kept (c : Config) : KeptByParts c State.DataPullTotal where
  clear _ h := h
  result _ _ h := h
  read _ _ h := h
  sample _ _ _ _ h := dataPullTotal_congr (by simp) (by simp) h
  rotary _ _ _ _ h := dataPullTotal_congr (by simp) (by simp) h
  sense _ _ _ _ _ h := senseLine_dataPullTotal c _ _ _ _ h
  atn _ _ _ _ _ := atnTransition_dataPullTotal ..
  propagate _ h := propagateInputs_dataPullTotal c h
  decode _ _ _ _ _ := decodePort_dataPullTotal ..
  refresh _ _ _ _ _ h := dataPullTotal_congr (by simp) (by simp) h

/-- Settles O20: the two parts that write a pull of DATA restore the total, the others leave it, and RESET clears all
three flags. -/
theorem dataPullIsGateOrChip : Obligations.DataPullIsGateOrChip := by
  intro i s t hs h
  have ht : t.DataPullTotal := by
    rcases reset_or_not i with ⟨c, rfl⟩ | hi
    · obtain ⟨-, -, rfl⟩ := execReset_next h
      obtain ⟨-, hlines, hgate, -⟩ := resetWith_frame c s
      rw [State.DataPullTotal, hlines, hgate]
      rfl
    · obtain ⟨c, -, hc⟩ := exec_next_ready hi h
      exact (dataPullTotal_kept c).exec hc hi h hs
  exact ⟨ht, fun hchip => by rw [ht, hchip, Bool.or_true]⟩

/-! The pins of the GPIO. -/

/-- A driven pin is in one of the two masks, whatever its level. -/
theorem drive_testBit (m : OutMasks) (p i : Nat) (v : Bool) :
    ((m.drive p v).set.testBit i || (m.drive p v).clear.testBit i) =
      (m.set.testBit i || m.clear.testBit i || decide (p = i)) := by
  cases v <;> simp [Bool.or_assoc, Bool.or_comm, Bool.or_left_comm]

/-- The masks of a Refresh name the pins of `refreshedPins` and no other (R150). -/
theorem refreshMasks_testBit (c : Config) (d k led sound : Bool) (i : Nat) :
    ((refreshMasks c d k led sound).set.testBit i || (refreshMasks c d k led sound).clear.testBit i) =
      decide (i ∈ refreshedPins c) := by
  cases hsplit : c.splitLines with
  | true =>
    simp only [refreshMasks, hsplit, if_true, drive_testBit]
    simp [refreshedPins, hsplit, eq_comm, Bool.or_assoc]
  | false =>
    simp only [refreshMasks, hsplit, Bool.false_eq_true, if_false, Nat.testBit_or, ← Bool.or_assoc, drive_testBit]
    simp [refreshedPins, hsplit, eq_comm, Bool.or_assoc]

/-- A Refresh keeps the latches of the pins it does not name. -/
theorem refreshPins_latch_other {c : Config} {d k led sound : Bool} {s : State} {i : Nat}
    (hi : i ∉ refreshedPins c) : (refreshPins c d k led sound s).gpio.latch.testBit i = s.gpio.latch.testBit i := by
  have hmasks := refreshMasks_testBit c d k led sound i
  rw [decide_eq_false hi, Bool.or_eq_false_iff] at hmasks
  rw [refreshPins_latch, hmasks.1, hmasks.2]
  simp

/-- A Refresh keeps the functions of all pins but the shared ones. -/
theorem refreshPins_outputs_other {c : Config} {d k led sound : Bool} {s : State} {i : Nat}
    (hi : c.splitLines = false → i ≠ c.pinMap.data ∧ i ≠ c.pinMap.clock) :
    (refreshPins c d k led sound s).gpio.outputs.testBit i = s.gpio.outputs.testBit i := by
  rw [refreshPins_outputs]
  cases hsplit : c.splitLines with
  | true => rfl
  | false =>
    obtain ⟨hdata, hclock⟩ := hi hsplit
    simp [hdata.symm, hclock.symm]

theorem otherLatch_kept {c : Config} {i : Nat} (hi : i ∉ refreshedPins c) (b : Bool) :
    KeptByParts c fun t => t.gpio.latch.testBit i = b where
  clear _ h := h
  result _ _ h := h
  read _ _ h := h
  sample _ _ _ _ h := by simpa using h
  rotary _ _ _ _ h := by simpa using h
  sense _ _ _ _ _ h := by simpa using h
  atn _ _ _ _ h := by simpa using h
  propagate _ h := by simpa using h
  decode _ _ _ _ h := h
  refresh _ _ _ _ _ h := by rwa [refreshPins_latch_other hi]

theorem otherFunction_kept {c : Config} {i : Nat}
    (hi : c.splitLines = false → i ≠ c.pinMap.data ∧ i ≠ c.pinMap.clock) (b : Bool) :
    KeptByParts c fun t => t.gpio.outputs.testBit i = b where
  clear _ h := h
  result _ _ h := h
  read _ _ h := h
  sample _ _ _ _ h := by simpa using h
  rotary _ _ _ _ h := by simpa using h
  sense _ _ _ _ _ h := by simpa using h
  atn _ _ _ _ h := by simpa using h
  propagate _ h := by simpa using h
  decode _ _ _ _ h := h
  refresh _ _ _ _ _ h := by rwa [refreshPins_outputs_other hi]

/-- Settles O46: a Refresh is the one part that writes the GPIO, and it leaves these pins alone. -/
theorem otherPinsAreUntouched : Obligations.OtherPinsAreUntouched := by
  intro c i s t hs h hi
  exact ⟨fun pin hpin => (otherLatch_kept hpin _).exec hs.2 hi h rfl,
    fun pin hpin => (otherFunction_kept hpin _).exec hs.2 hi h rfl⟩

end Sys2Proof.Proofs
end

-- ==== Proofs: SAMPLE and ROTARY ====
section
/-! One sample of a pin by the place of its streak (R172 to R175), runs of equal samples, and ROTARY (R177). -/

namespace Sys2Proof.Proofs

open Sys2Proof Sys2Proof.Machine Sys2Proof.Statements

/-! One sample of the level of the run. -/

theorem streak_succ_toNat {v : U32} (h : v.toNat < 2 ^ 32 - 1) : (v + 1).toNat = v.toNat + 1 := by
  bv_omega

theorem autoRepeat_idle {t : U32} {pressed raw : Bool} {p : InputPin}
    (h : raw ≠ pressed ∨ p.validStreak.toNat ≤ t.toNat) : autoRepeat t pressed raw p = (p, none) := by
  rw [autoRepeat, if_neg]
  rintro ⟨hlt, hraw⟩
  rcases h with h | h
  · exact h hraw
  · omega

theorem autoRepeat_fires {t : U32} {pressed raw : Bool} {p : InputPin} (ht : t.toNat < p.validStreak.toNat)
    (hraw : raw = pressed) (hcounter : p.repeatCounter = 1) :
    autoRepeat t pressed raw p = ({ p with repeatCounter := t }, some .repeated) := by
  rw [autoRepeat, if_pos ⟨ht, hraw⟩, if_pos (by rw [hcounter]; rfl)]

theorem autoRepeat_counts {t : U32} {pressed raw : Bool} {p : InputPin} (ht : t.toNat < p.validStreak.toNat)
    (hraw : raw = pressed) (hcounter : 1 < p.repeatCounter.toNat) :
    autoRepeat t pressed raw p = ({ p with repeatCounter := BitVec.ofNat 32 (p.repeatCounter.toNat - 1) }, none) := by
  have hsub : p.repeatCounter - 1 = BitVec.ofNat 32 (p.repeatCounter.toNat - 1) := by bv_omega
  have hne : ¬ BitVec.ofNat 32 (p.repeatCounter.toNat - 1) = 0 := by bv_omega
  rw [autoRepeat, if_pos ⟨ht, hraw⟩, hsub, if_neg hne]

/-- R172, R173: below the threshold a sample counts up and fires nothing. -/
theorem samplePin_below {t : U32} (pressed : Bool) {p : InputPin} (h : p.validStreak.toNat + 1 < t.toNat) :
    samplePin t pressed p.previousRaw p =
      (⟨p.previousRaw, p.previousRaw, p.validStreak + 1, p.repeatCounter⟩, none) := by
  have ht : t.toNat < 2 ^ 32 := t.isLt
  have hlt : p.validStreak.toNat < 2 ^ 32 - 1 := by omega
  have hsucc := streak_succ_toNat hlt
  have hne : p.validStreak + 1 ≠ t := fun he => by rw [he] at hsucc; omega
  simp only [samplePin, if_true, if_pos hlt, if_neg hne]
  exact autoRepeat_idle (.inr (by simp only [hsucc]; omega))

/-- R173, R174: the sample that reaches the threshold fires Press, and loads the counter, or Release. -/
theorem samplePin_reaching {t : U32} (pressed : Bool) {p : InputPin} (h : p.validStreak.toNat + 1 = t.toNat) :
    samplePin t pressed p.previousRaw p =
      if p.previousRaw = pressed then (⟨p.previousRaw, p.previousRaw, t, t⟩, some .press)
      else (⟨p.previousRaw, p.previousRaw, t, p.repeatCounter⟩, some .release) := by
  have ht : t.toNat < 2 ^ 32 := t.isLt
  have hlt : p.validStreak.toNat < 2 ^ 32 - 1 := by omega
  have he : p.validStreak + 1 = t := BitVec.eq_of_toNat_eq (by rw [streak_succ_toNat hlt, h])
  simp only [samplePin, if_true, if_pos hlt, he]

/-- The streak after one more sample (R175: it saturates). -/
def nextStreak (v : U32) : U32 := BitVec.ofNat 32 (min (v.toNat + 1) (2 ^ 32 - 1))

theorem nextStreak_toNat (v : U32) : (nextStreak v).toNat = min (v.toNat + 1) (2 ^ 32 - 1) := by
  rw [nextStreak, BitVec.toNat_ofNat]
  exact Nat.mod_eq_of_lt (by omega)

/-- R174, R175: past the threshold the streak counts on to its last value, and the repeat counter is looked at. -/
theorem samplePin_past {t : U32} (pressed : Bool) {p : InputPin} (h : t.toNat ≤ p.validStreak.toNat) :
    samplePin t pressed p.previousRaw p =
      autoRepeat t pressed p.previousRaw
        ⟨p.previousRaw, p.previousRaw, nextStreak p.validStreak, p.repeatCounter⟩ := by
  by_cases hlt : p.validStreak.toNat < 2 ^ 32 - 1
  · have hsucc := streak_succ_toNat hlt
    have hnext : nextStreak p.validStreak = p.validStreak + 1 :=
      BitVec.eq_of_toNat_eq (by rw [nextStreak_toNat, hsucc]; omega)
    have hne : p.validStreak + 1 ≠ t := fun he => by rw [he] at hsucc; omega
    simp only [samplePin, if_true, if_pos hlt, if_neg hne, hnext]
  · have hmax : p.validStreak.toNat < 2 ^ 32 := p.validStreak.isLt
    have hnext : nextStreak p.validStreak = p.validStreak :=
      BitVec.eq_of_toNat_eq (by rw [nextStreak_toNat]; omega)
    simp only [samplePin, if_true, if_neg hlt, hnext]

/-! The operation SAMPLE. -/

theorem threshold_of_getElem? {c : Config} {i : Nat} {b : Button} (hb : c.buttons[i]? = some b) :
    threshold c i = b.repeatThreshold := by simp [threshold, hb]

theorem buttonPin_of_getElem? {c : Config} {i : Nat} {b : Button} (hb : c.buttons[i]? = some b) :
    buttonPin c i = b.pin := by simp [buttonPin, hb]

theorem lt_nButtons_of_getElem? {c : Config} {i : Nat} {b : Button} (hb : c.buttons[i]? = some b) :
    i < nButtons c := (List.getElem?_eq_some_iff.1 hb).1

theorem pin_of_getElem? {s : State} {i : Nat} {p : InputPin} (hp : s.pins[i]? = some p) (c : Config) :
    s.pin c i = p := by simp [State.pin, hp]

/-- R171: SAMPLE stores the sampled pin and hands back its event. -/
theorem exec_sample_eq {c : Config} {s : State} {i : Nat} {b : Button} {p q : InputPin} {raw : Bool}
    {e : Option ButtonEvent} (hs : Ready c s) (hb : c.buttons[i]? = some b) (hp : s.pins[i]? = some p)
    (hq : samplePin b.repeatThreshold c.pressedLevel raw p = (q, e)) :
    exec (.sample i raw) s =
      .next { s with pins := s.pins.set i q, out := ⟨(e.map (Event.button i)).toList, [], .nothing⟩ } := by
  have hpin : ({ s with out := .empty } : State).pin c i = p := pin_of_getElem? (s := { s with out := .empty }) hp c
  rw [exec_sample_ready hs (lt_nButtons_of_getElem? hb)]
  simp only [sampleButton, threshold_of_getElem? hb, hpin, hq]
  cases e <;> rfl

/-- Settles O26: the sample differs from the last one. -/
theorem sampleChangeStartsRun : Obligations.SampleChangeStartsRun := by
  intro c s i b p raw hs hb hp hraw
  exact exec_sample_eq hs hb hp (samplePin_change _ _ _ _ hraw)

/-- Settles O27: the streak stays below the threshold. -/
theorem sampleBelowThresholdCounts : Obligations.SampleBelowThresholdCounts := by
  intro c s i b p hs hb hp hlt
  exact exec_sample_eq hs hb hp (samplePin_below _ hlt)

/-- Settles O28: the streak reaches the threshold. -/
theorem sampleReachingThresholdFires : Obligations.SampleReachingThresholdFires := by
  intro c s i b p hs hb hp hreach
  have hpin := samplePin_reaching c.pressedLevel hreach
  refine ⟨fun hraw => ?_, fun hraw => ?_⟩
  · rw [if_pos hraw] at hpin
    exact exec_sample_eq hs hb hp hpin
  · rw [if_neg hraw] at hpin
    exact exec_sample_eq hs hb hp hpin

/-- Settles O29: the streak is past the threshold, and the three clauses are the three outcomes of auto-repeat. -/
theorem samplePastThresholdRepeats : Obligations.SamplePastThresholdRepeats := by
  intro c s i b p hs hb hp hle streak
  have hpin := samplePin_past c.pressedLevel hle
  refine ⟨fun hraw hlt hcounter => ?_, fun hraw hlt hcounter => ?_, fun hidle => ?_⟩
  · exact exec_sample_eq hs hb hp (hpin.trans (autoRepeat_fires hlt hraw hcounter))
  · exact exec_sample_eq hs hb hp (hpin.trans (autoRepeat_counts hlt hraw hcounter))
  · exact exec_sample_eq hs hb hp (hpin.trans (autoRepeat_idle (hidle.imp id fun h => h.ge)))

/-! Runs of equal samples. -/

/-- A list of calls with one more at its end: the last call runs on the state that the others leave. -/
theorem execAll_concat {is : List Instr} {i : Instr} {s t : State} (h : execAll is s = .next t) :
    execAll (is ++ [i]) s = exec i t := by
  induction is generalizing s with
  | nil =>
    cases h
    simp only [List.nil_append, execAll]
    split <;> simp_all
  | cons j js ih =>
    rw [execAll] at h
    rw [List.cons_append, execAll]
    split at h
    · exact ih h
    · cases h
    · cases h

theorem execAll_replicate_succ {n : Nat} {i : Instr} {s t : State} (h : execAll (List.replicate n i) s = .next t) :
    execAll (List.replicate (n + 1) i) s = exec i t := by
  rw [List.replicate_succ', execAll_concat h]

/-- What a run of SAMPLEs has reached: pin `i` is `q`, the last SAMPLE fired `e`, the session goes on. -/
def SampledTo (c : Config) (s : State) (i n : Nat) (raw : Bool) (q : InputPin) (e : Option ButtonEvent) : Prop :=
  ∃ t, execAll (List.replicate n (.sample i raw)) s = .next t ∧ Ready c t ∧ t.pins = s.pins.set i q ∧
    t.out.events = (e.map (Event.button i)).toList

/-- The first SAMPLE of a run. -/
theorem sampledTo_one {c : Config} {s : State} {i : Nat} {b : Button} {p q : InputPin} {raw : Bool}
    {e : Option ButtonEvent} (hs : Ready c s) (hb : c.buttons[i]? = some b) (hp : s.pins[i]? = some p)
    (hq : samplePin b.repeatThreshold c.pressedLevel raw p = (q, e)) : SampledTo c s i 1 raw q e :=
  ⟨_, (execAll_replicate_succ (n := 0) rfl).trans (exec_sample_eq hs hb hp hq), hs, rfl, rfl⟩

/-- One more SAMPLE of a run. -/
theorem SampledTo.succ {c : Config} {s : State} {i n : Nat} {b : Button} {p q q' : InputPin} {raw : Bool}
    {e e' : Option ButtonEvent} (hb : c.buttons[i]? = some b) (hp : s.pins[i]? = some p)
    (hrun : SampledTo c s i n raw q e) (hq : samplePin b.repeatThreshold c.pressedLevel raw q = (q', e')) :
    SampledTo c s i (n + 1) raw q' e' := by
  obtain ⟨t, hexec, ht, hpins, -⟩ := hrun
  have hi : i < s.pins.length := (List.getElem?_eq_some_iff.1 hp).1
  have hpin : t.pins[i]? = some q := by rw [hpins, List.getElem?_set_self hi]
  refine ⟨_, (execAll_replicate_succ hexec).trans (exec_sample_eq ht hb hpin hq), ht, ?_, rfl⟩
  simp only [hpins, List.set_set]

/-- The pin that the `n`-th equal sample after a change leaves, for `n ≤ t` (R172, R173). -/
def debouncedPin (t : U32) (pressed raw : Bool) (n : Nat) : InputPin :=
  ⟨raw, raw, BitVec.ofNat 32 n, if n = t.toNat ∧ raw = pressed then t else 0⟩

/-- The event of that sample (R173). -/
def debounceEvent (t : U32) (pressed raw : Bool) (n : Nat) : Option ButtonEvent :=
  if n = t.toNat then some (if raw = pressed then .press else .release) else none

/-- One more equal sample, up to the threshold. -/
theorem samplePin_debouncedPin {t : U32} (pressed raw : Bool) {n : Nat} (hn : n + 1 ≤ t.toNat) :
    samplePin t pressed raw (debouncedPin t pressed raw n) =
      (debouncedPin t pressed raw (n + 1), debounceEvent t pressed raw (n + 1)) := by
  have ht : t.toNat < 2 ^ 32 := t.isLt
  have hstreak : (debouncedPin t pressed raw n).validStreak.toNat = n := by
    simp only [debouncedPin, BitVec.toNat_ofNat]
    exact Nat.mod_eq_of_lt (by omega)
  have hcounter : (debouncedPin t pressed raw n).repeatCounter = 0 := if_neg fun h => by omega
  have hsucc : BitVec.ofNat 32 n + 1#32 = BitVec.ofNat 32 (n + 1) := by simp [BitVec.ofNat_add]
  rcases Nat.lt_or_eq_of_le hn with hlt | heq
  · have hpin := samplePin_below (t := t) pressed (p := debouncedPin t pressed raw n) (by rwa [hstreak])
    rw [hcounter] at hpin
    refine hpin.trans ?_
    simp [debouncedPin, debounceEvent, hsucc, hlt.ne]
  · have hpin := samplePin_reaching (t := t) pressed (p := debouncedPin t pressed raw n) (by rwa [hstreak])
    rw [hcounter] at hpin
    refine hpin.trans ?_
    by_cases hraw : raw = pressed
    · simp [debouncedPin, debounceEvent, heq, hraw]
    · simp [debouncedPin, debounceEvent, heq, hraw]

/-- Settles O30, by induction on the number of equal samples after the change. -/
theorem debounceFiresExactlyAtThreshold : Obligations.DebounceFiresExactlyAtThreshold := by
  intro c s i n b p raw hs hb hp hraw hT hn
  have hrun : SampledTo c s i (n + 1) raw (debouncedPin b.repeatThreshold c.pressedLevel raw n)
      (debounceEvent b.repeatThreshold c.pressedLevel raw n) := by
    induction n with
    | zero =>
      refine sampledTo_one hs hb hp ?_
      have h0 : ¬ 0 = b.repeatThreshold.toNat := by omega
      rw [samplePin_change _ _ _ _ hraw]
      simp [debouncedPin, debounceEvent, h0]
    | succ n ih => exact (ih (by omega)).succ hb hp (samplePin_debouncedPin _ _ hn)
  obtain ⟨t, hexec, -, hpins, hevents⟩ := hrun
  refine ⟨t, hexec, hpins, hevents.trans ?_⟩
  unfold debounceEvent
  split <;> rfl

/-- A pin held down for `n` samples after its Press, with threshold `t` (R174, R175). -/
def HeldFor (t : U32) (pressed : Bool) (n : Nat) (p : InputPin) : Prop :=
  p.previousRaw = pressed ∧ p.validStreak.toNat = min (t.toNat + n) (2 ^ 32 - 1) ∧
  p.repeatCounter.toNat = t.toNat - n % t.toNat

/-- The pin that the `n`-th sample after the Press leaves. -/
def heldPin (t : U32) (pressed : Bool) (n : Nat) : InputPin :=
  ⟨pressed, pressed, BitVec.ofNat 32 (min (t.toNat + n) (2 ^ 32 - 1)), BitVec.ofNat 32 (t.toNat - n % t.toNat)⟩

/-- The event of that sample: a Repeat exactly when the threshold divides `n` (R174). -/
def heldEvent (t : U32) (n : Nat) : Option ButtonEvent := if n % t.toNat = 0 then some .repeated else none

theorem heldPin_heldFor (t : U32) (pressed : Bool) (n : Nat) : HeldFor t pressed n (heldPin t pressed n) := by
  have ht : t.toNat < 2 ^ 32 := t.isLt
  refine ⟨rfl, ?_, ?_⟩
  · simp only [heldPin, BitVec.toNat_ofNat]
    exact Nat.mod_eq_of_lt (by omega)
  · simp only [heldPin, BitVec.toNat_ofNat]
    exact Nat.mod_eq_of_lt (by omega)

/-- Counting down from `t` once a sample: the counter is 1 exactly before a multiple of `t`. -/
theorem succ_mod_cases {t : Nat} (n : Nat) (ht : 1 ≤ t) :
    ((n + 1) % t = 0 ∧ t - n % t = 1) ∨ ((n + 1) % t = n % t + 1 ∧ 1 < t - n % t) := by
  have hmod : n % t < t := Nat.mod_lt _ ht
  by_cases h : n % t + 1 = t
  · left
    refine ⟨?_, by omega⟩
    rw [← Nat.mod_add_mod, h, Nat.mod_self]
  · right
    refine ⟨?_, by omega⟩
    rw [← Nat.mod_add_mod, Nat.mod_eq_of_lt (by omega)]

/-- One more sample of a held button. -/
theorem samplePin_heldFor {t : U32} {pressed : Bool} {n : Nat} {p : InputPin} (h : HeldFor t pressed n p)
    (ht : 1 ≤ t.toNat) (hmax : t.toNat < 2 ^ 32 - 1) :
    samplePin t pressed pressed p = (heldPin t pressed (n + 1), heldEvent t (n + 1)) := by
  obtain ⟨hraw, hstreak, hcounter⟩ := h
  have hpast := samplePin_past pressed (p := p) (t := t) (by omega)
  rw [hraw] at hpast
  have hnext : nextStreak p.validStreak = BitVec.ofNat 32 (min (t.toNat + (n + 1)) (2 ^ 32 - 1)) := by
    rw [nextStreak, hstreak]
    congr 1
    omega
  have hlt : t.toNat < (nextStreak p.validStreak).toNat := by
    rw [nextStreak_toNat, hstreak]
    omega
  rw [hpast]
  rcases succ_mod_cases n ht with ⟨hzero, hone⟩ | ⟨hsucc, hmore⟩
  · have hc : p.repeatCounter = 1 := BitVec.eq_of_toNat_eq (by rw [hcounter, hone]; rfl)
    rw [autoRepeat_fires (p := ⟨pressed, pressed, nextStreak p.validStreak, p.repeatCounter⟩) hlt rfl hc]
    simp [heldPin, heldEvent, hnext, hzero]
  · have hc : 1 < p.repeatCounter.toNat := by rwa [hcounter]
    rw [autoRepeat_counts (p := ⟨pressed, pressed, nextStreak p.validStreak, p.repeatCounter⟩) hlt rfl hc]
    simp [heldPin, heldEvent, hnext, hsucc, hcounter, Nat.sub_add_eq]

/-- Settles O31, by induction on the number of samples since the Press. -/
theorem autoRepeatEveryThresholdSamples : Obligations.AutoRepeatEveryThresholdSamples := by
  intro c s i n b p hs hb hp hraw hstreak hcounter hT hmax
  have hrun : SampledTo c s i (n + 1) c.pressedLevel (heldPin b.repeatThreshold c.pressedLevel (n + 1))
      (heldEvent b.repeatThreshold (n + 1)) := by
    induction n with
    | zero =>
      have hheld : HeldFor b.repeatThreshold c.pressedLevel 0 p := by
        refine ⟨hraw, ?_, ?_⟩
        · rw [hstreak]
          omega
        · rw [hcounter, Nat.zero_mod, Nat.sub_zero]
      exact sampledTo_one hs hb hp (samplePin_heldFor hheld hT hmax)
    | succ n ih => exact ih.succ hb hp (samplePin_heldFor (heldPin_heldFor _ _ _) hT hmax)
  obtain ⟨t, hexec, -, hpins, hevents⟩ := hrun
  refine ⟨t, hexec, hpins, hevents.trans ?_⟩
  unfold heldEvent
  split <;> rfl

/-! ROTARY. -/

/-- Settles O32: the pair's direction is read from the secondary's stored sample, and nothing is written. -/
theorem rotaryReadsSecondaryRaw : Obligations.RotaryReadsSecondaryRaw := by
  intro c s j pressed hs
  refine ⟨fun r q hr hq => ?_, fun hj => ?_⟩
  · have hpin : ({ s with out := .empty } : State).pin c r.secondary = q :=
      pin_of_getElem? (s := { s with out := .empty }) hq c
    rw [exec_rotary_ready hs hr]
    cases pressed with
    | true => simp only [rotaryPair, rotaryDirection, hpin, if_true]; rfl
    | false => rfl
  · have hnone : c.rotaryPairs[j]? = none := List.getElem?_eq_none hj
    change execRotary j pressed s = _
    rw [execRotary, enter_running _ hs.1 hs.2]
    simp only [hnone]
    rfl

end Sys2Proof.Proofs
end

-- ==== Proofs: The invariant ====
section
/-! Every step keeps the invariant: its bus part, its pin part and its GPIO part are each kept by the parts of the
operations, and RESET sets all three up. -/

namespace Sys2Proof.Proofs

open Sys2Proof Sys2Proof.Machine Sys2Proof.Statements

/-! The effective value of each line, in the stored flags (R23, R25). -/

theorem asserted_atn (s : State) : s.asserted .atn = !s.lines.atn.sensedHigh := by
  rw [State.asserted, effHigh_of_unpulled s .atn (.inl rfl)]
  rfl

theorem asserted_srq (s : State) : s.asserted .srq = !s.lines.srq.sensedHigh := by
  rw [State.asserted, effHigh_of_unpulled s .srq (.inr (.inl rfl))]
  rfl

theorem asserted_reset (s : State) : s.asserted .reset = !s.lines.reset.sensedHigh := by
  rw [State.asserted, effHigh_of_unpulled s .reset (.inr (.inr rfl))]
  rfl

theorem asserted_data (s : State) : s.asserted .data =
    (!s.lines.data.sensedHigh || s.lines.data.pulledLowByDrive || s.lines.data.pulledLowByChipOutput) := by
  simp [State.asserted, State.effHigh, State.sensedHigh, State.line, State.pulledLowByDrive,
    State.pulledLowByChipOutput]

theorem asserted_clock (s : State) :
    s.asserted .clock = (!s.lines.clock.sensedHigh || s.lines.clock.pulledLowByChipOutput) := by
  simp [State.asserted, State.effHigh, State.sensedHigh, State.line, State.pulledLowByDrive,
    State.pulledLowByChipOutput]

/-! The bus part of the invariant. -/

/-- What the invariant says of the lines, the gate and the chip's bookkeeping. -/
structure BusOk (c : Config) (s : State) : Prop where
  hardWired : s.HardWired
  total : s.DataPullTotal
  condition : s.resetAsserted = (!s.lines.reset.sensedHigh && !c.ignoreReset)
  undecoded : s.lastApplied = none → s.NoChipPull
  chipless : c.chipKind = .absent → s.pullDataLow = false ∧ s.lastApplied = none ∧ s.fed = ⟨false, false, false⟩

/-- What `BusOk` reads of a state, `S.fed` aside. -/
theorem busOk_congr {c : Config} {s t : State} (hlines : t.lines = s.lines) (hgate : t.pullDataLow = s.pullDataLow)
    (hlast : t.lastApplied = s.lastApplied) (hreset : t.resetAsserted = s.resetAsserted)
    (hfed : c.chipKind = .absent → t.fed = s.fed) (h : BusOk c s) : BusOk c t where
  hardWired := by
    have := h.hardWired
    unfold State.HardWired at *
    rwa [hlines]
  total := dataPullTotal_congr hlines hgate h.total
  condition := by rw [hlines, hreset, h.condition]
  undecoded := by
    have := h.undecoded
    unfold State.NoChipPull at *
    rwa [hlines, hlast]
  chipless hc := by
    rw [hgate, hlast, hfed hc]
    exact h.chipless hc

/-- Storing a sample of a line other than RESET keeps the bus part. -/
theorem setSensed_busOk {c : Config} {l : LineId} (hl : l ≠ .reset) (v : Bool) {s : State} (h : BusOk c s) :
    BusOk c (s.setSensed l v) := by
  obtain ⟨hw, ht, hr, hu, hc⟩ := h
  cases l
  case reset => exact absurd rfl hl
  all_goals exact ⟨hw, ht, hr, hu, hc⟩

theorem senseReset_busOk {c : Config} (raw : Bool) {s : State} (h : BusOk c s) : BusOk c (senseReset c raw s) := by
  obtain ⟨hw, ht, -, hu, hc⟩ := h
  exact ⟨hw, ht, rfl, hu, hc⟩

/-- R124: on an ATN transition with no chip the gate stays off. -/
theorem gate_atn_chipless {c : Config} {snap : Option PortState} (hsnap : snapshotMatches c snap = true)
    (hc : c.chipKind = .absent) (a : Bool) : gate c (atnaOutOf c snap) a (atnaDirOf c snap) = false := by
  cases snap with
  | none => exact gate_absent_none c hc a
  | some p => exact absurd hc ((chipAttached_iff c).1 (chipAttached_of_some hsnap))

theorem atnTransition_busOk {c : Config} (a : Bool) {snap : Option PortState}
    (hsnap : snapshotMatches c snap = true) {s : State} (h : BusOk c s) : BusOk c (atnTransition c a snap s) where
  hardWired := by
    unfold State.HardWired
    rw [atnTransition_lines]
    exact h.hardWired
  total := atnTransition_dataPullTotal ..
  condition := by
    rw [atnTransition_lines, atnTransition_resetAsserted]
    exact h.condition
  undecoded := by
    unfold State.NoChipPull
    rw [atnTransition_lines, atnTransition_lastApplied]
    exact h.undecoded
  chipless hc := by
    obtain ⟨-, hlast, hfed⟩ := h.chipless hc
    simp [gate_atn_chipless hsnap hc, hlast, hfed, chipAttached_of_absent hc]

theorem senseLine_busOk {c : Config} (l : LineId) (raw : Bool) {snap : Option PortState}
    (hsnap : l = .atn → snapshotMatches c snap = true) {s : State} (h : BusOk c s) :
    BusOk c (senseLine c l raw snap s) := by
  cases l with
  | data => exact setSensed_busOk (l := .data) (by decide) _ h
  | clock => exact setSensed_busOk (l := .clock) (by decide) _ h
  | srq => exact setSensed_busOk (l := .srq) (by decide) _ h
  | reset => exact senseReset_busOk raw h
  | atn =>
    have hsampled := setSensed_busOk (l := .atn) (by decide) (senseLevel c raw) h
    rcases senseAtn_cases c raw snap s with ⟨-, heq⟩ | ⟨-, heq⟩
    · rwa [senseLine, heq]
    · rw [senseLine, heq]
      exact atnTransition_busOk _ (hsnap rfl) hsampled

theorem decodePort_busOk {c : Config} (status dir : Byte) (hchip : chipAttached c = true) {s : State}
    (h : BusOk c s) : BusOk c (decodePort c status dir s) := by
  obtain ⟨hw, -, hr, -, -⟩ := h
  exact ⟨hw, decodePort_dataPullTotal .., hr, fun hn => by simp at hn,
    fun hc => absurd hc ((chipAttached_iff c).1 hchip)⟩

theorem propagateInputs_busOk {c : Config} {s : State} (h : BusOk c s) : BusOk c (propagateInputs c s) :=
  busOk_congr (by simp) (by simp) (by simp) (by simp)
    (fun hc => by simp [propagateInputs_fed, chipAttached_of_absent hc]) h

theorem busOk_kept (c : Config) : KeptByParts c (BusOk c) where
  clear s h := busOk_congr (s := s) rfl rfl rfl rfl (fun _ => rfl) h
  result _ s h := busOk_congr (s := s) rfl rfl rfl rfl (fun _ => rfl) h
  read _ s h := busOk_congr (s := s) rfl rfl rfl rfl (fun _ => rfl) h
  sample _ _ _ _ h := busOk_congr (by simp) (by simp) (by simp) (by simp) (by simp) h
  rotary _ _ _ _ h := busOk_congr (by simp) (by simp) (by simp) (by simp) (by simp) h
  sense l raw _ _ hsnap h := senseLine_busOk l raw hsnap h
  atn a _ _ hsnap h := atnTransition_busOk a hsnap h
  propagate _ h := propagateInputs_busOk h
  decode status dir _ hchip h := decodePort_busOk status dir hchip h
  refresh _ _ _ _ _ h := busOk_congr (by simp) (by simp) (by simp) (by simp) (by simp) h

/-! The pin part of the invariant. -/

/-- Past the threshold auto-repeat keeps the counter in `0 .. t`, and non-zero in a pressed run (R174, R175). -/
theorem autoRepeat_ok {t : U32} {pressed : Bool} {p : InputPin} (ht : 1 ≤ t.toNat) (h : p.Ok t pressed) :
    (autoRepeat t pressed p.previousRaw p).1.Ok t pressed := by
  by_cases hidle : p.previousRaw ≠ pressed ∨ p.validStreak.toNat ≤ t.toNat
  · rwa [autoRepeat_idle hidle]
  · obtain ⟨hraw, hlt⟩ : p.previousRaw = pressed ∧ t.toNat < p.validStreak.toNat := by simpa using hidle
    obtain ⟨hraws, hle, hzero⟩ := h
    have hnot : ¬ (p.previousRaw ≠ pressed ∨ p.validStreak.toNat < t.toNat) := by
      rintro (h | h)
      · exact h hraw
      · omega
    have hpos : ¬ p.repeatCounter = 0 := fun h0 => hnot (hzero.1 h0)
    by_cases hone : p.repeatCounter = 1
    · rw [autoRepeat_fires hlt hraw hone]
      exact ⟨hraws, le_rfl, iff_of_false (by bv_omega) hnot⟩
    · have hmore : 1 < p.repeatCounter.toNat := by bv_omega
      rw [autoRepeat_counts hlt hraw hmore]
      refine ⟨hraws, ?_, iff_of_false ?_ hnot⟩
      · rw [BitVec.toNat_ofNat]
        omega
      · bv_omega

/-- Every sample keeps a pin's part of the invariant (R172 to R175). -/
theorem samplePin_ok {t : U32} {pressed : Bool} (raw : Bool) {p : InputPin} (ht : 1 ≤ t.toNat)
    (h : p.Ok t pressed) : (samplePin t pressed raw p).1.Ok t pressed := by
  by_cases hraw : raw = p.previousRaw
  · subst hraw
    obtain ⟨-, hle, hzero⟩ := h
    rcases Nat.lt_trichotomy (p.validStreak.toNat + 1) t.toNat with hlt | heq | hgt
    · rw [samplePin_below pressed hlt]
      have hmax : t.toNat < 2 ^ 32 := t.isLt
      have hsucc := streak_succ_toNat (v := p.validStreak) (by omega)
      exact ⟨rfl, hle, iff_of_true (hzero.2 (.inr (by omega))) (.inr (by simp only [hsucc]; omega))⟩
    · rw [samplePin_reaching pressed heq]
      split
      · next hp =>
        refine ⟨rfl, le_rfl, iff_of_false (by bv_omega) ?_⟩
        rintro (h | h)
        · exact h hp
        · exact Nat.lt_irrefl _ h
      · next hp => exact ⟨rfl, hle, iff_of_true (hzero.2 (.inl hp)) (.inl hp)⟩
    · have hpast : t.toNat ≤ p.validStreak.toNat := by omega
      have hmax : p.validStreak.toNat < 2 ^ 32 := p.validStreak.isLt
      have hnext := nextStreak_toNat p.validStreak
      rw [samplePin_past pressed hpast]
      refine autoRepeat_ok (p := ⟨p.previousRaw, p.previousRaw, nextStreak p.validStreak, p.repeatCounter⟩) ht
        ⟨rfl, hle, hzero.trans (or_congr_right ?_)⟩
      simp only [hnext]
      omega
  · rw [samplePin_change _ _ _ _ hraw]
    exact ⟨rfl, Nat.zero_le _, iff_of_true rfl (.inr ht)⟩

/-- R39: the thresholds of an admitted configuration are not zero. -/
theorem threshold_pos {c : Config} (ha : configAdmitted c = true) {i : Nat} (hi : i < nButtons c) :
    1 ≤ (threshold c i).toNat := by
  have hall : ∀ b ∈ c.buttons, ¬ b.repeatThreshold = 0#32 := by
    simp [configAdmitted] at ha
    exact ha.1.1.1.1.1
  have hget : c.buttons[i]? = some c.buttons[i] := List.getElem?_eq_getElem hi
  have hne := hall _ (List.getElem_mem hi)
  rw [threshold_of_getElem? hget]
  bv_omega

/-- What the invariant says of the input pins. -/
def PinsOk (c : Config) (s : State) : Prop :=
  s.pins.length = nButtons c ∧ ∀ i, i < nButtons c → (s.pin c i).Ok (threshold c i) c.pressedLevel

theorem pinsOk_congr {c : Config} {s t : State} (h : t.pins = s.pins) (hs : PinsOk c s) : PinsOk c t := by
  refine ⟨by rw [h, hs.1], fun i hi => ?_⟩
  rw [pin_congr t s h]
  exact hs.2 i hi

/-- The pin read after a SAMPLE. -/
theorem sampleButton_pin {c : Config} {i : Nat} (raw : Bool) {s : State} (hi : i < s.pins.length) (j : Nat) :
    (sampleButton c i raw s).pin c j =
      if i = j then (samplePin (threshold c i) c.pressedLevel raw (s.pin c i)).1 else s.pin c j := by
  simp only [State.pin, sampleButton_pins]
  split
  · next h =>
    subst h
    simp [List.getElem?_set_self hi]
  · next h => simp [List.getElem?_set_ne h]

theorem sampleButton_pinsOk {c : Config} (ha : configAdmitted c = true) {i : Nat} (hi : i < nButtons c) (raw : Bool)
    {s : State} (h : PinsOk c s) : PinsOk c (sampleButton c i raw s) := by
  obtain ⟨hlen, hok⟩ := h
  refine ⟨by rw [sampleButton_pins, List.length_set, hlen], fun j hj => ?_⟩
  rw [sampleButton_pin raw (by rwa [hlen])]
  split
  · next hij =>
    subst hij
    exact samplePin_ok raw (threshold_pos ha hi) (hok i hi)
  · exact hok j hj

theorem pinsOk_kept {c : Config} (ha : configAdmitted c = true) : KeptByParts c (PinsOk c) where
  clear s h := pinsOk_congr (s := s) rfl h
  result _ s h := pinsOk_congr (s := s) rfl h
  read _ s h := pinsOk_congr (s := s) rfl h
  sample _ raw _ hi h := sampleButton_pinsOk ha hi raw h
  rotary _ _ _ _ h := pinsOk_congr (by simp) h
  sense _ _ _ _ _ h := pinsOk_congr (by simp) h
  atn _ _ _ _ h := pinsOk_congr (by simp) h
  propagate _ h := pinsOk_congr (by simp) h
  decode _ _ s _ h := pinsOk_congr (s := s) rfl h
  refresh _ _ _ _ _ h := pinsOk_congr (by simp) h

/-! The GPIO part, and the invariant. -/

theorem gpioOk_kept {c : Config} (ha : configAdmitted c = true) : KeptByParts c (State.GpioOk c) where
  clear s h := GpioOk_congr (s := s) rfl h
  result _ s h := GpioOk_congr (s := s) rfl h
  read _ s h := GpioOk_congr (s := s) rfl h
  sample _ _ _ _ h := GpioOk_congr (by simp) h
  rotary _ _ _ _ h := GpioOk_congr (by simp) h
  sense _ _ _ _ _ h := GpioOk_congr (by simp) h
  atn _ _ _ _ h := GpioOk_congr (by simp) h
  propagate _ h := GpioOk_congr (by simp) h
  decode _ _ s _ h := GpioOk_congr (s := s) rfl h
  refresh d k led sound _ h := refreshPins_gpioOk ha d k led sound h

/-- The invariant of a session, in its three parts. -/
theorem sessionOk_iff {c : Config} {s : State} :
    s.HardWired ∧ s.SessionOk c ↔ configAdmitted c = true ∧ BusOk c s ∧ PinsOk c s ∧ s.GpioOk c := by
  constructor
  · rintro ⟨hw, ha, hlen, hpins, htotal, hreset, hundecoded, hgpio, hchipless⟩
    rw [asserted_reset] at hreset
    exact ⟨ha, ⟨hw, htotal, hreset, hundecoded, hchipless⟩, ⟨hlen, hpins⟩, hgpio⟩
  · rintro ⟨ha, ⟨hw, htotal, hreset, hundecoded, hchipless⟩, ⟨hlen, hpins⟩, hgpio⟩
    rw [← asserted_reset] at hreset
    exact ⟨hw, ha, hlen, hpins, htotal, hreset, hundecoded, hgpio, hchipless⟩

/-- On a session the invariant is that of the session's configuration. -/
theorem inv_iff {c : Config} {s : State} (hc : s.cfg = some c) :
    s.Inv ↔ configAdmitted c = true ∧ BusOk c s ∧ PinsOk c s ∧ s.GpioOk c := by
  rw [← sessionOk_iff]
  constructor
  · rintro ⟨hw, hsession⟩
    exact ⟨hw, hsession c hc⟩
  · rintro ⟨hw, hsession⟩
    refine ⟨hw, fun c' hc' => ?_⟩
    obtain rfl : c = c' := Option.some.inj (hc.symm.trans hc')
    exact hsession

/-- RESET with an admitted configuration sets the invariant up, whatever the state was. -/
theorem resetWith_inv {c : Config} (ha : configAdmitted c = true) (s : State) : (resetWith c s).Inv := by
  obtain ⟨hcfg, hlines, hgate, hlast, hfed, hreset, hpins, -, -⟩ := resetWith_frame c s
  refine (inv_iff hcfg).2 ⟨ha, ⟨?_, ?_, ?_, ?_, ?_⟩, ⟨?_, fun i hi => ?_⟩, resetWith_gpioOk ha s⟩
  · rw [State.HardWired, hlines]
    decide
  · rw [State.DataPullTotal, hlines, hgate]
    rfl
  · rw [hlines, hreset]
    rfl
  · rw [State.NoChipPull, hlines]
    exact fun _ => ⟨rfl, rfl⟩
  · exact fun _ => ⟨hgate, hlast, hfed⟩
  · rw [hpins, List.length_replicate]
  · have hpin : (resetWith c s).pin c i = InputPin.released c := by
      simp [State.pin, hpins, hi]
    rw [hpin]
    exact ⟨rfl, Nat.zero_le _, iff_of_true rfl (.inr (threshold_pos ha hi))⟩

/-- Every operation that completes keeps the invariant. -/
theorem exec_keeps_inv {i : Instr} {s t : State} (hs : s.Inv) (h : exec i s = .next t) : t.Inv := by
  rcases reset_or_not i with ⟨c, rfl⟩ | hi
  · obtain ⟨-, ha, rfl⟩ := execReset_next h
    exact resetWith_inv ha s
  · obtain ⟨c, hm, hc⟩ := exec_next_ready hi h
    obtain ⟨-, -, hcfg⟩ := (sameControl_kept c s).exec hc hi h ⟨hm, rfl, rfl⟩
    obtain ⟨ha, hbus, hpins, hgpio⟩ := (inv_iff hc).1 hs
    exact (inv_iff (hcfg.trans hc)).2 ⟨ha, (busOk_kept c).exec hc hi h hbus, (pinsOk_kept ha).exec hc hi h hpins,
      (gpioOk_kept ha).exec hc hi h hgpio⟩

/-- The invariant does not read the calls of the loop. -/
theorem withCalls_inv {s : State} (hs : s.Inv) (calls : List (List Byte)) : (s.withCalls calls).Inv := hs

/-- Settles O60: a step is an idle one, which changes nothing, or runs an operation on the state with its call taken
off, and every operation keeps the invariant. -/
theorem everyStepKeepsInvariant : Obligations.EveryStepKeepsInvariant := by
  intro s t hs h
  cases hnext : nextCall s with
  | idle =>
    simp only [step, hnext, idleStep] at h
    split at h
    · exact absurd h (refuse_ne_next _ _ _)
    · cases h
      exact hs
  | malformed why =>
    simp only [step, hnext, notACall] at h
    split at h
    · exact absurd h (refuse_ne_next _ _ _)
    · cases h
  | call i rest =>
    simp only [step, hnext] at h
    exact exec_keeps_inv (withCalls_inv hs rest) h

/-- Settles O59: `State.reset` is a good state of its session, and `State.powerOn` has no session. -/
theorem resetStateMeetsInvariant : Obligations.ResetStateMeetsInvariant := by
  refine ⟨⟨by decide, fun c hc => ?_⟩, ⟨by decide, fun c hc => by cases hc⟩⟩
  obtain rfl : Config.boot = c := Option.some.inj hc
  decide

/-! A session with no chip (R55, R124). -/

/-- The trace so far makes no chip call. -/
def NoChipCall (s : State) : Prop := s.out.hw.all (fun h => !isChipCall h) = true

/-- A step that appends only calls that are no chip calls keeps `NoChipCall`. -/
theorem noChipCall_of_append {s t : State} {calls : List HwCall} (h : t.out.hw = s.out.hw ++ calls)
    (hcalls : calls.all (fun h => !isChipCall h) = true) (hs : NoChipCall s) : NoChipCall t := by
  rw [NoChipCall, h, List.all_append, hcalls, Bool.and_true]
  exact hs

theorem noChipCall_of_sameTrace {s t : State} (h : t.out.hw = s.out.hw) (hs : NoChipCall s) : NoChipCall t :=
  noChipCall_of_append (calls := []) (by simpa using h) rfl hs

theorem feedAtn_chipless {c : Config} (hc : c.chipKind = .absent) (a : Bool) (s : State) : feedAtn c a s = s := by
  simp [feedAtn, chipAttached_of_absent hc]

theorem atnTransition_noChipCall {c : Config} (hc : c.chipKind = .absent) (a : Bool) (snap : Option PortState)
    {s : State} (hs : NoChipCall s) : NoChipCall (atnTransition c a snap s) :=
  noChipCall_of_sameTrace (by rw [atnTransition_hw, feedAtn_chipless hc]) hs

theorem senseLine_noChipCall {c : Config} (hc : c.chipKind = .absent) (l : LineId) (raw : Bool)
    (snap : Option PortState) {s : State} (hs : NoChipCall s) : NoChipCall (senseLine c l raw snap s) := by
  by_cases hl : l = .atn
  · subst hl
    have hsampled : NoChipCall (s.setSensed .atn (senseLevel c raw)) := noChipCall_of_sameTrace (by simp) hs
    rcases senseAtn_cases c raw snap s with ⟨-, h⟩ | ⟨-, h⟩
    · rwa [senseLine, h]
    · rw [senseLine, h]
      exact atnTransition_noChipCall hc _ _ hsampled
  · exact noChipCall_of_sameTrace (by simp [senseLine_eq c l raw snap s hl]) hs

theorem refreshPins_noChipCall (c : Config) (d k led sound : Bool) {s : State} (hs : NoChipCall s) :
    NoChipCall (refreshPins c d k led sound s) := by
  refine noChipCall_of_append ((refreshPins_hw c d k led sound s).trans (List.append_assoc ..)) ?_ hs
  split <;> rfl

theorem noChipCall_kept {c : Config} (hc : c.chipKind = .absent) : KeptByParts c NoChipCall where
  clear _ _ := rfl
  result _ _ h := h
  read _ _ h := noChipCall_of_append (record_hw ..) rfl h
  sample _ _ _ _ h := noChipCall_of_sameTrace (by simp) h
  rotary _ _ _ _ h := noChipCall_of_sameTrace (by simp) h
  sense l raw snap _ _ h := senseLine_noChipCall hc l raw snap h
  atn a snap _ _ h := atnTransition_noChipCall hc a snap h
  propagate _ h := noChipCall_of_sameTrace (by simp [propagateInputs, chipAttached_of_absent hc]) h
  decode _ _ _ _ h := h
  refresh d k led sound _ h := refreshPins_noChipCall c d k led sound h

/-- Settles O47: with no chip no part of an operation makes a chip call, and the invariant leaves no pull. -/
theorem noChipMeansNoChipCall : Obligations.NoChipMeansNoChipCall := by
  intro c i s t hinv hs hchip hi h
  obtain ⟨-, -, hcfg⟩ := (sameControl_kept c s).exec hs.2 hi h ⟨hs.1, rfl, rfl⟩
  obtain ⟨-, hbus, -, -⟩ := (inv_iff (hcfg.trans hs.2)).1 (exec_keeps_inv hinv h)
  obtain ⟨hgate, hlast, -⟩ := hbus.chipless hchip
  obtain ⟨hdata, hclock⟩ := hbus.undecoded hlast
  refine ⟨(noChipCall_kept hchip).exec_of_clear hs.2 hi h rfl, hgate, ?_, hclock⟩
  rw [hbus.total, hgate, hdata]
  rfl

end Sys2Proof.Proofs
end

-- ==== Proofs: The bus over a CYCLE ====
section
/-! The bus after each step of a CYCLE, field by field, as a function of the bus before it (R108, R125, R130, R133,
R191). -/

namespace Sys2Proof.Proofs

open Sys2Proof Sys2Proof.Machine Sys2Proof.Statements

/-! Sensing (R108). -/

/-- The normalised level of a line in a level mask (R74, R101). -/
def lineLevel (c : Config) (levels : Mask) (l : LineId) : Bool := senseLevel c (rawLevel levels (linePin c l))

theorem lineLevel_eq (c : Config) (levels : Mask) (l : LineId) :
    lineLevel c levels l = (rawLevel levels (linePin c l) != c.invertInputs) := by
  simp [lineLevel, senseLevel, Bool.bne_eq_xor]

/-- The lines after their five samples, DATA and CLOCK forced by the pulls as they stand (R102, R108). -/
def sampledLines (c : Config) (levels : Mask) (ls : Lines) : Lines where
  atn := { ls.atn with sensedHigh := lineLevel c levels .atn }
  data := { ls.data with
    sensedHigh := ls.data.pulledLowByDrive || ls.data.pulledLowByChipOutput || lineLevel c levels .data }
  clock := { ls.clock with sensedHigh := ls.clock.pulledLowByChipOutput || lineLevel c levels .clock }
  srq := { ls.srq with sensedHigh := lineLevel c levels .srq }
  reset := { ls.reset with sensedHigh := lineLevel c levels .reset }

/-- The state of the sensing phase before it senses ATN, its last line (R108). -/
def beforeAtn (c : Config) (levels : Mask) (s : State) : State :=
  { s with
    lines := { sampledLines c levels s.lines with atn := s.lines.atn }
    resetAsserted := resetCondition c (lineLevel c levels .reset) }

theorem sensePullable_eq (c : Config) (l : LineId) (raw : Bool) (s : State) :
    sensePullable c l raw s = s.setSensed l (s.forced l || senseLevel c raw) := by
  unfold sensePullable
  cases s.forced l <;> rfl

theorem forced_data (s : State) :
    s.forced .data = (s.lines.data.pulledLowByDrive || s.lines.data.pulledLowByChipOutput) := rfl

theorem forced_clock (s : State) : s.forced .clock = s.lines.clock.pulledLowByChipOutput := by
  simp [State.forced, State.pulledLowByDrive, State.pulledLowByChipOutput]

theorem sensingPhase_eq (c : Config) (levels : Mask) (snap : Option PortState) (s : State) :
    sensingPhase c levels snap s = senseAtn c (rawLevel levels c.pinMap.atn) snap (beforeAtn c levels s) := by
  simp only [sensingPhase, List.foldl_cons, List.foldl_nil, senseLine, sensePullable_eq, forced_data, forced_clock]
  rfl

/-- Whether the cycle's sample of ATN differs from the last one (R104). -/
def atnChanges (c : Config) (levels : Mask) (ls : Lines) : Bool := lineLevel c levels .atn != ls.atn.sensedHigh

/-- The gate's pull that the cycle's ATN transition computes (R125). -/
def atnGate (c : Config) (levels : Mask) (snap : Option PortState) : Bool :=
  gate c (atnaOutOf c snap) (!lineLevel c levels .atn) (atnaDirOf c snap)

/-- The gate's pull after sensing. -/
def sensedGate (c : Config) (levels : Mask) (snap : Option PortState) (ls : Lines) (g : Bool) : Bool :=
  if atnChanges c levels ls then atnGate c levels snap else g

/-- DATA's total pull after sensing. -/
def sensedDrive (c : Config) (levels : Mask) (snap : Option PortState) (ls : Lines) : Bool :=
  if atnChanges c levels ls then atnGate c levels snap || ls.data.pulledLowByChipOutput
  else ls.data.pulledLowByDrive

/-- The lines after sensing. -/
def sensedLines (c : Config) (levels : Mask) (snap : Option PortState) (ls : Lines) : Lines :=
  let sampled := sampledLines c levels ls
  { sampled with data := { sampled.data with pulledLowByDrive := sensedDrive c levels snap ls } }

/-- The chip calls of an ATN transition to `a` (R125, R126). -/
def atnCalls (c : Config) (a : Bool) : List HwCall :=
  match c.chipKind with
  | .variantA => [.setPortInput c.portMap.atnIn a, .signalEdgeInput a]
  | .variantB => [.setPortInput c.portMap.atnIn a, .setLevelFlag a]
  | .absent => []

/-- The chip calls of sensing. -/
def sensedCalls (c : Config) (levels : Mask) (ls : Lines) : List HwCall :=
  if atnChanges c levels ls then atnCalls c (!lineLevel c levels .atn) else []

/-- `S.fed` after sensing. -/
def sensedFed (c : Config) (levels : Mask) (ls : Lines) (f : Fed) : Fed :=
  if atnChanges c levels ls && chipAttached c then { f with atn := !lineLevel c levels .atn } else f

/-- The two ways the sensing phase ends: ATN is as it was, or OnAtnTransition runs (R104). -/
theorem sensingPhase_cases (c : Config) (levels : Mask) (snap : Option PortState) (s : State) :
    (atnChanges c levels s.lines = false ∧
      sensingPhase c levels snap s = (beforeAtn c levels s).setSensed .atn (lineLevel c levels .atn)) ∨
    (atnChanges c levels s.lines = true ∧
      sensingPhase c levels snap s = atnTransition c (!lineLevel c levels .atn) snap
        ((beforeAtn c levels s).setSensed .atn (lineLevel c levels .atn))) := by
  rw [sensingPhase_eq]
  rcases senseAtn_cases c (rawLevel levels c.pinMap.atn) snap (beforeAtn c levels s) with ⟨hsame, h⟩ | ⟨hdiff, h⟩
  · exact .inl ⟨by rw [atnChanges, bne_eq_false_iff_eq]; exact hsame, h⟩
  · exact .inr ⟨by rw [atnChanges, bne_iff_ne]; exact hdiff, h⟩

theorem sensingPhase_lines (c : Config) (levels : Mask) (snap : Option PortState) (s : State) :
    (sensingPhase c levels snap s).lines = sensedLines c levels snap s.lines := by
  rcases sensingPhase_cases c levels snap s with ⟨hatn, h⟩ | ⟨hatn, h⟩
  · simp [h, sensedLines, sensedDrive, hatn, beforeAtn, State.setSensed, sampledLines]
  · rw [h, atnTransition_lines]
    simp [sensedLines, sensedDrive, hatn, beforeAtn, State.setSensed, sampledLines, atnGate]

theorem sensingPhase_pullDataLow (c : Config) (levels : Mask) (snap : Option PortState) (s : State) :
    (sensingPhase c levels snap s).pullDataLow = sensedGate c levels snap s.lines s.pullDataLow := by
  rcases sensingPhase_cases c levels snap s with ⟨hatn, h⟩ | ⟨hatn, h⟩ <;>
    simp [h, sensedGate, hatn, beforeAtn, atnGate]

theorem sensingPhase_fed (c : Config) (levels : Mask) (snap : Option PortState) (s : State) :
    (sensingPhase c levels snap s).fed = sensedFed c levels s.lines s.fed := by
  rcases sensingPhase_cases c levels snap s with ⟨hatn, h⟩ | ⟨hatn, h⟩ <;>
    simp [h, sensedFed, hatn, beforeAtn]

theorem sensingPhase_resetAsserted (c : Config) (levels : Mask) (snap : Option PortState) (s : State) :
    (sensingPhase c levels snap s).resetAsserted = resetCondition c (lineLevel c levels .reset) := by
  rcases sensingPhase_cases c levels snap s with ⟨-, h⟩ | ⟨-, h⟩ <;> simp [h, beforeAtn]

theorem sensingPhase_hw (c : Config) (levels : Mask) (snap : Option PortState) (s : State) :
    (sensingPhase c levels snap s).out.hw = s.out.hw ++ sensedCalls c levels s.lines := by
  rcases sensingPhase_cases c levels snap s with ⟨hatn, h⟩ | ⟨hatn, h⟩
  · simp [h, sensedCalls, hatn, beforeAtn]
  · rw [h, atnTransition_hw, feedAtn_hw, sensedCalls, if_pos hatn, setSensed_out]
    rfl

theorem sensingPhase_events (c : Config) (levels : Mask) (snap : Option PortState) (s : State) :
    (sensingPhase c levels snap s).out.events = s.out.events := by
  rcases sensingPhase_cases c levels snap s with ⟨-, h⟩ | ⟨-, h⟩ <;> simp [h, beforeAtn]

/-! Propagation (R133). -/

/-- Whether DATA and CLOCK are asserted (R25). -/
def dataAsserted (ls : Lines) : Bool :=
  !ls.data.sensedHigh || ls.data.pulledLowByDrive || ls.data.pulledLowByChipOutput
def clockAsserted (ls : Lines) : Bool := !ls.clock.sensedHigh || ls.clock.pulledLowByChipOutput

/-- The chip calls of a propagation. -/
def inputCalls (c : Config) (ls : Lines) (f : Fed) : List HwCall :=
  if chipAttached c then
    feedCalls c.portMap.dataIn f.data (dataAsserted ls) ++ feedCalls c.portMap.clockIn f.clock (clockAsserted ls)
  else []

/-- `S.fed` after a propagation. -/
def propagatedFed (c : Config) (ls : Lines) (f : Fed) : Fed :=
  if chipAttached c then ⟨f.atn, dataAsserted ls, clockAsserted ls⟩ else f

theorem propagateInputs_fed_eq (c : Config) (s : State) :
    (propagateInputs c s).fed = propagatedFed c s.lines s.fed := by
  rw [propagateInputs_fed, asserted_data, asserted_clock]
  rfl

theorem propagateInputs_hw_eq (c : Config) (s : State) :
    (propagateInputs c s).out.hw = s.out.hw ++ inputCalls c s.lines s.fed := by
  rw [propagateInputs_hw, asserted_data, asserted_clock]
  rfl

/-! The decode (R130, R193). -/

/-- The lines after the decode of `p`. -/
def portLines (c : Config) (p : PortState) (ls : Lines) : Lines :=
  { ls with
    data := ⟨ls.data.sensedHigh,
      gate c (portBit p.out c.portMap.atnaOut) (!ls.atn.sensedHigh) (portBit p.dir c.portMap.atnaOut) ||
        wantsLow p.out p.dir c.portMap.dataOut,
      wantsLow p.out p.dir c.portMap.dataOut⟩
    clock := { ls.clock with pulledLowByChipOutput := wantsLow p.out p.dir c.portMap.clockOut } }

/-- The lines after step 4 of a cycle. -/
def decodedLines (c : Config) (snap last : Option PortState) (ls : Lines) : Lines :=
  match snap with
  | none => ls
  | some p => if last = some p then ls else portLines c p ls

/-- The gate's pull after step 4 of a cycle. -/
def decodedGate (c : Config) (snap last : Option PortState) (ls : Lines) (g : Bool) : Bool :=
  match snap with
  | none => g
  | some p =>
    if last = some p then g
    else gate c (portBit p.out c.portMap.atnaOut) (!ls.atn.sensedHigh) (portBit p.dir c.portMap.atnaOut)

theorem decodeIfChanged_lines (c : Config) (snap : Option PortState) (s : State) :
    (decodeIfChanged c snap s).lines = decodedLines c snap s.lastApplied s.lines := by
  cases snap with
  | none => rfl
  | some p =>
    simp only [decodeIfChanged, decodedLines]
    split
    · rfl
    · rw [decodePort_lines, asserted_atn]
      rfl

theorem decodeIfChanged_pullDataLow (c : Config) (snap : Option PortState) (s : State) :
    (decodeIfChanged c snap s).pullDataLow = decodedGate c snap s.lastApplied s.lines s.pullDataLow := by
  cases snap with
  | none => rfl
  | some p =>
    simp only [decodeIfChanged, decodedGate]
    split
    · rfl
    · rw [decodePort_pullDataLow, asserted_atn]

theorem decodeIfChanged_lastApplied_eq (c : Config) (snap : Option PortState) (s : State) :
    (decodeIfChanged c snap s).lastApplied = snap.or s.lastApplied := by
  cases snap with
  | none => rfl
  | some p => exact decodeIfChanged_lastApplied c p s

/-! The state that the cycle refreshes the pins from. -/

section
variable (c : Config) (levels : Mask) (snap : Option PortState) (s : State)

/-- The lines at the end of a cycle. -/
def cycleLines (c : Config) (levels : Mask) (snap last : Option PortState) (ls : Lines) : Lines :=
  decodedLines c snap last (sensedLines c levels snap ls)

/-- The gate's pull at the end of a cycle. -/
def cycleGate (c : Config) (levels : Mask) (snap last : Option PortState) (ls : Lines) (g : Bool) : Bool :=
  decodedGate c snap last (sensedLines c levels snap ls) (sensedGate c levels snap ls g)

/-- `S.fed` between sensing and decode. -/
def midFed (c : Config) (levels : Mask) (snap : Option PortState) (ls : Lines) (f : Fed) : Fed :=
  propagatedFed c (sensedLines c levels snap ls) (sensedFed c levels ls f)

/-- The chip calls of a cycle, in order. -/
def cycleChipCalls (c : Config) (levels : Mask) (snap last : Option PortState) (ls : Lines) (f : Fed) : List HwCall :=
  sensedCalls c levels ls ++ inputCalls c (sensedLines c levels snap ls) (sensedFed c levels ls f) ++
    inputCalls c (cycleLines c levels snap last ls) (midFed c levels snap ls f)

theorem stateToRefresh_lines :
    (stateToRefresh c levels snap s).lines = cycleLines c levels snap s.lastApplied s.lines := by
  simp [stateToRefresh, decodeIfChanged_lines, sensingPhase_lines, cycleLines]

theorem stateToRefresh_pullDataLow :
    (stateToRefresh c levels snap s).pullDataLow = cycleGate c levels snap s.lastApplied s.lines s.pullDataLow := by
  simp [stateToRefresh, decodeIfChanged_pullDataLow, sensingPhase_lines, sensingPhase_pullDataLow, cycleGate]

theorem stateToRefresh_lastApplied : (stateToRefresh c levels snap s).lastApplied = snap.or s.lastApplied := by
  simp [stateToRefresh, decodeIfChanged_lastApplied_eq]

theorem stateToRefresh_resetAsserted :
    (stateToRefresh c levels snap s).resetAsserted = resetCondition c (lineLevel c levels .reset) := by
  simp [stateToRefresh, sensingPhase_resetAsserted]

theorem stateToRefresh_fed : (stateToRefresh c levels snap s).fed =
    propagatedFed c (cycleLines c levels snap s.lastApplied s.lines) (midFed c levels snap s.lines s.fed) := by
  simp [stateToRefresh, propagateInputs_fed_eq, decodeIfChanged_lines, sensingPhase_lines, sensingPhase_fed,
    cycleLines, midFed]

theorem stateToRefresh_gpio : (stateToRefresh c levels snap s).gpio = s.gpio := by simp [stateToRefresh]

theorem stateToRefresh_hw : (stateToRefresh c levels snap s).out.hw =
    s.out.hw ++ (.readPinLevels levels :: cycleChipCalls c levels snap s.lastApplied s.lines s.fed) := by
  simp [stateToRefresh, propagateInputs_hw_eq, decodeIfChanged_lines, sensingPhase_lines, sensingPhase_fed,
    sensingPhase_hw, propagateInputs_fed_eq, cycleLines, midFed, cycleChipCalls]

end

end Sys2Proof.Proofs
end

-- ==== Proofs: The sampling phase of a CYCLE ====
section
/-! The input pins and the events after the SAMPLEs and the ROTARYs of a CYCLE, as functions of the pins before it
(R171, R177, R179). -/

namespace Sys2Proof.Proofs

open Sys2Proof Sys2Proof.Machine Sys2Proof.Statements

/-! The SAMPLEs. -/

/-- The SAMPLE of button `i` in a cycle, from the pins as they stood when it began. -/
def sampleOf (c : Config) (levels : Mask) (ps : List InputPin) (i : Nat) : InputPin × Option ButtonEvent :=
  samplePin (threshold c i) c.pressedLevel (rawLevel levels (buttonPin c i)) ((ps[i]?).getD (InputPin.released c))

/-- The pins after the SAMPLEs of the first `n` buttons. -/
def sampledPins (c : Config) (levels : Mask) (n : Nat) (ps : List InputPin) : List InputPin :=
  ps.mapIdx fun i p => if i < n then (sampleOf c levels ps i).1 else p

/-- The button events of the first `n` buttons. -/
def buttonEvents (c : Config) (levels : Mask) (n : Nat) (ps : List InputPin) : List (Nat × ButtonEvent) :=
  (List.range n).filterMap fun i => (sampleOf c levels ps i).2.map (Prod.mk i)

/-- The SAMPLEs of the first `n` buttons of a cycle. -/
def sampleFirst (c : Config) (levels : Mask) (n : Nat) (s : State) : State :=
  (List.range n).foldl (fun s i => sampleButton c i (rawLevel levels (buttonPin c i)) s) s

theorem sampleFirst_succ (c : Config) (levels : Mask) (n : Nat) (s : State) :
    sampleFirst c levels (n + 1) s =
      sampleButton c n (rawLevel levels (buttonPin c n)) (sampleFirst c levels n s) := by
  rw [sampleFirst, List.range_succ, List.foldl_append]
  rfl

theorem sampledPins_getElem? (c : Config) (levels : Mask) (n : Nat) (ps : List InputPin) (i : Nat) :
    (sampledPins c levels n ps)[i]? =
      if i < n then (ps[i]?).map (fun _ => (sampleOf c levels ps i).1) else ps[i]? := by
  rw [sampledPins, List.getElem?_mapIdx]
  split <;> simp

/-- A SAMPLE reads its pin as it stood when the cycle began. -/
theorem samplePin_of_sampledPins {c : Config} {levels : Mask} {n : Nat} {s : State} {ps : List InputPin}
    (h : s.pins = sampledPins c levels n ps) :
    samplePin (threshold c n) c.pressedLevel (rawLevel levels (buttonPin c n)) (s.pin c n) =
      sampleOf c levels ps n := by
  rw [State.pin, h, sampledPins_getElem?, if_neg (Nat.lt_irrefl n)]
  rfl

theorem sampleFirst_pins (c : Config) (levels : Mask) (n : Nat) (s : State) :
    (sampleFirst c levels n s).pins = sampledPins c levels n s.pins := by
  induction n with
  | zero =>
    change s.pins = _
    exact List.ext_getElem? fun i => by simp [sampledPins_getElem?]
  | succ n ih =>
    rw [sampleFirst_succ, sampleButton_pins, samplePin_of_sampledPins ih, ih]
    refine List.ext_getElem? fun i => ?_
    rw [List.getElem?_set, sampledPins_getElem?, sampledPins_getElem?]
    rcases Nat.lt_trichotomy i n with hlt | rfl | hgt
    · simp [hlt, hlt.ne', Nat.lt_succ_of_lt hlt]
    · by_cases hi : i < s.pins.length
      · simp [sampledPins, hi]
      · simp [sampledPins, hi]
    · have h₁ : ¬ i < n := by omega
      have h₂ : ¬ i < n + 1 := by omega
      simp [h₁, h₂, hgt.ne]

theorem sampleFirst_events (c : Config) (levels : Mask) (n : Nat) (s : State) :
    (sampleFirst c levels n s).out.events =
      s.out.events ++ (buttonEvents c levels n s.pins).map (fun e => Event.button e.1 e.2) := by
  induction n with
  | zero => exact (List.append_nil _).symm
  | succ n ih =>
    rw [sampleFirst_succ, sampleButton_events, samplePin_of_sampledPins (sampleFirst_pins c levels n s), ih]
    cases h : (sampleOf c levels s.pins n).2 <;> simp [buttonEvents, List.range_succ, h]

/-! The ROTARYs. -/

/-- The direction event of pair `j`, from the button events `bs` and the pins of this cycle (R177, R178). -/
def rotaryEventOf (c : Config) (bs : List (Nat × ButtonEvent)) (ps : List InputPin) (j : Nat) :
    Option (Nat × Direction) :=
  (c.rotaryPairs[j]?).bind fun r =>
    if (r.primary, ButtonEvent.press) ∈ bs then
      some (j, if ((ps[r.secondary]?).getD (InputPin.released c)).currentRaw = c.pressedLevel then .second else .first)
    else none

/-- The rotary events of the first `n` pairs. -/
def rotaryEvents (c : Config) (bs : List (Nat × ButtonEvent)) (ps : List InputPin) (n : Nat) :
    List (Nat × Direction) := (List.range n).filterMap (rotaryEventOf c bs ps)

/-- The ROTARYs of the first `n` pairs of a cycle. -/
def rotaryFirst (c : Config) (n : Nat) (s : State) : State := (List.range n).foldl (rotaryOf c) s

theorem rotaryFirst_succ (c : Config) (n : Nat) (s : State) :
    rotaryFirst c (n + 1) s = rotaryOf c (rotaryFirst c n s) n := by
  rw [rotaryFirst, List.range_succ, List.foldl_append]
  rfl

theorem rotaryFirst_pins (c : Config) (n : Nat) (s : State) : (rotaryFirst c n s).pins = s.pins := by
  induction n with
  | zero => rfl
  | succ n ih => rw [rotaryFirst_succ, rotaryOf_pins, ih]

/-- The Press of a button stands among the events exactly when it stands among the button events. -/
theorem button_mem_events (bs : List (Nat × ButtonEvent)) (rs : List (Nat × Direction)) (i : Nat) (k : ButtonEvent) :
    Event.button i k ∈ bs.map (fun e => Event.button e.1 e.2) ++ rs.map (fun e => Event.rotary e.1 e.2) ↔
      (i, k) ∈ bs := by simp

theorem rotary_mem_events (bs : List (Nat × ButtonEvent)) (rs : List (Nat × Direction)) (j : Nat) (d : Direction) :
    Event.rotary j d ∈ bs.map (fun e => Event.button e.1 e.2) ++ rs.map (fun e => Event.rotary e.1 e.2) ↔
      (j, d) ∈ rs := by simp

theorem rotaryFirst_events {c : Config} {s : State} {bs : List (Nat × ButtonEvent)}
    (hs : s.out.events = bs.map (fun e => Event.button e.1 e.2)) (n : Nat) :
    (rotaryFirst c n s).out.events = bs.map (fun e => Event.button e.1 e.2) ++
      (rotaryEvents c bs s.pins n).map (fun e => Event.rotary e.1 e.2) := by
  induction n with
  | zero => simpa [rotaryEvents, rotaryFirst] using hs
  | succ n ih =>
    rw [rotaryFirst_succ, rotaryEvents, List.range_succ, List.filterMap_append, ← rotaryEvents]
    unfold rotaryOf
    cases hr : c.rotaryPairs[n]? with
    | none => simpa [rotaryEventOf, hr] using ih
    | some r =>
      simp only [rotaryPair_events, ih, button_mem_events, rotaryDirection, State.pin, rotaryFirst_pins]
      by_cases hpress : (r.primary, ButtonEvent.press) ∈ bs <;> simp [rotaryEventOf, hr, hpress]

/-! The sampling phase in a cycle. -/

/-- The button events of a cycle, and its rotary events. -/
def cycleButtonEvents (c : Config) (levels : Mask) (ps : List InputPin) : List (Nat × ButtonEvent) :=
  buttonEvents c levels (nButtons c) ps
def cycleRotaryEvents (c : Config) (levels : Mask) (ps : List InputPin) : List (Nat × Direction) :=
  rotaryEvents c (cycleButtonEvents c levels ps) (sampledPins c levels (nButtons c) ps) c.rotaryPairs.length

theorem sampleAll_eq (c : Config) (levels : Mask) (s : State) :
    sampleAll c levels s = sampleFirst c levels (nButtons c) s := rfl

theorem rotaryAll_eq (c : Config) (s : State) : rotaryAll c s = rotaryFirst c c.rotaryPairs.length s := rfl

theorem sampleAll_pins (c : Config) (levels : Mask) (s : State) :
    (sampleAll c levels s).pins = sampledPins c levels (nButtons c) s.pins := sampleFirst_pins ..

theorem stateToRefresh_pins (c : Config) (levels : Mask) (snap : Option PortState) (s : State) :
    (stateToRefresh c levels snap s).pins = sampledPins c levels (nButtons c) s.pins := by
  simp [stateToRefresh, sampleAll_pins]

theorem stateToRefresh_events (c : Config) (levels : Mask) (snap : Option PortState) {s : State}
    (hs : s.out.events = []) : (stateToRefresh c levels snap s).out.events =
      (cycleButtonEvents c levels s.pins).map (fun e => Event.button e.1 e.2) ++
        (cycleRotaryEvents c levels s.pins).map (fun e => Event.rotary e.1 e.2) := by
  have hbuttons : (sampleAll c levels (s.readPinLevels levels)).out.events =
      (cycleButtonEvents c levels s.pins).map (fun e => Event.button e.1 e.2) := by
    have h := sampleFirst_events c levels (nButtons c) (s.readPinLevels levels)
    simpa [sampleAll_eq, cycleButtonEvents, hs] using h
  have h := rotaryFirst_events (c := c) hbuttons c.rotaryPairs.length
  rw [sampleAll_pins] at h
  simpa [stateToRefresh, sensingPhase_events, samplingPhase, rotaryAll_eq, cycleRotaryEvents] using h

end Sys2Proof.Proofs
end

-- ==== Proofs: CYCLE in closed form ====
section
/-! Every field that a completed CYCLE leaves, from the state it was called on (R191), and the statements about a CYCLE
that are read off it. -/

namespace Sys2Proof.Proofs

open Sys2Proof Sys2Proof.Machine Sys2Proof.Statements

theorem state_eq_of_fields {s t : State} (hcfg : s.cfg = t.cfg) (hlines : s.lines = t.lines)
    (hgate : s.pullDataLow = t.pullDataLow) (hlast : s.lastApplied = t.lastApplied) (hfed : s.fed = t.fed)
    (hreset : s.resetAsserted = t.resetAsserted) (hpins : s.pins = t.pins) (hmark : s.mark = t.mark)
    (hgpio : s.gpio = t.gpio) (hout : s.out = t.out) (hcalls : s.calls = t.calls) : s = t := by
  cases s
  cases t
  simp only at *
  subst hcfg hlines hgate hlast hfed hreset hpins hmark hgpio hout hcalls
  rfl

theorem output_eq_of_fields {o o' : Output} (hevents : o.events = o'.events) (hhw : o.hw = o'.hw)
    (hresult : o.result = o'.result) : o = o' := by
  cases o
  cases o'
  simp only at *
  subst hevents hhw hresult
  rfl

/-! The writes of a Refresh. -/

/-- The writes of a Refresh, in the order of R155. -/
def refreshCalls (c : Config) (d k led sound : Bool) : List HwCall :=
  [.writePinsSet (refreshMasks c d k led sound).set, .writePinsClear (refreshMasks c d k led sound).clear] ++
    if c.splitLines then [] else
      [.writePinFunction c.pinMap.data (pullFunction d), .writePinFunction c.pinMap.clock (pullFunction k)]

theorem refreshPins_hw_eq (c : Config) (d k led sound : Bool) (s : State) :
    (refreshPins c d k led sound s).out.hw = s.out.hw ++ refreshCalls c d k led sound := by
  rw [refreshPins_hw, List.append_assoc]
  rfl

/-- The GPIO that a Refresh leaves depends on the GPIO before it alone. -/
theorem refreshPins_gpio_congr {c : Config} {d k led sound : Bool} {s t : State} (h : s.gpio = t.gpio) :
    (refreshPins c d k led sound s).gpio = (refreshPins c d k led sound t).gpio := by
  have hlatch : (refreshPins c d k led sound s).gpio.latch = (refreshPins c d k led sound t).gpio.latch :=
    Nat.eq_of_testBit_eq fun i => by rw [refreshPins_latch, refreshPins_latch, h]
  have houtputs : (refreshPins c d k led sound s).gpio.outputs = (refreshPins c d k led sound t).gpio.outputs :=
    Nat.eq_of_testBit_eq fun i => by rw [refreshPins_outputs, refreshPins_outputs, h]
  exact (Gpio.mk.injEq ..).mpr ⟨hlatch, houtputs⟩

/-! The closed form. -/

/-- What a completed CYCLE leaves. -/
structure CycleLeaves (c : Config) (levels : Mask) (snap : Option PortState) (led sound : Bool) (s t : State) :
    Prop where
  snapshot : snapshotMatches c snap = true
  cfg : t.cfg = s.cfg
  mark : t.mark = s.mark
  calls : t.calls = s.calls
  lines : t.lines = cycleLines c (pinLevels c levels) snap s.lastApplied s.lines
  gate : t.pullDataLow = cycleGate c (pinLevels c levels) snap s.lastApplied s.lines s.pullDataLow
  lastApplied : t.lastApplied = snap.or s.lastApplied
  fed : t.fed = propagatedFed c t.lines (midFed c (pinLevels c levels) snap s.lines s.fed)
  resetAsserted : t.resetAsserted = resetCondition c (lineLevel c (pinLevels c levels) .reset)
  pins : t.pins = sampledPins c (pinLevels c levels) (nButtons c) s.pins
  gpio : t.gpio =
    (refreshPins c t.lines.data.pulledLowByDrive t.lines.clock.pulledLowByChipOutput led sound s).gpio
  result : t.out.result = .cycle t.resetAsserted
  events : t.out.events =
    (cycleButtonEvents c (pinLevels c levels) s.pins).map (fun e => Event.button e.1 e.2) ++
      (cycleRotaryEvents c (pinLevels c levels) s.pins).map (fun e => Event.rotary e.1 e.2)
  hw : t.out.hw = .readPinLevels (pinLevels c levels) ::
    (cycleChipCalls c (pinLevels c levels) snap s.lastApplied s.lines s.fed ++
      refreshCalls c t.lines.data.pulledLowByDrive t.lines.clock.pulledLowByChipOutput led sound)

/-- R191 in closed form. -/
theorem cycleSteps_leaves {c : Config} {snap : Option PortState} (hsnap : snapshotMatches c snap = true)
    (levels : Mask) (led sound : Bool) (s : State) :
    CycleLeaves c levels snap led sound s
      (cycleSteps c (pinLevels c levels) snap led sound { s with out := .empty }) := by
  have hlines : (cycleSteps c (pinLevels c levels) snap led sound { s with out := .empty }).lines =
      cycleLines c (pinLevels c levels) snap s.lastApplied s.lines := by
    simp [cycleSteps_eq, stateToRefresh_lines]
  have hdrive : (stateToRefresh c (pinLevels c levels) snap { s with out := .empty }).pulledLowByDrive .data =
      (cycleLines c (pinLevels c levels) snap s.lastApplied s.lines).data.pulledLowByDrive := by
    simp [State.pulledLowByDrive, stateToRefresh_lines]
  have hclock : (stateToRefresh c (pinLevels c levels) snap { s with out := .empty }).pulledLowByChipOutput .clock =
      (cycleLines c (pinLevels c levels) snap s.lastApplied s.lines).clock.pulledLowByChipOutput := by
    simp [State.pulledLowByChipOutput, stateToRefresh_lines]
  refine ⟨hsnap, by simp, by simp, by simp, hlines, ?_, ?_, ?_, ?_, ?_, ?_, ?_, ?_, ?_⟩
  · simp [cycleSteps_eq, stateToRefresh_pullDataLow]
  · simp [cycleSteps_eq, stateToRefresh_lastApplied]
  · rw [hlines]
    simp [cycleSteps_eq, stateToRefresh_fed]
  · simp [cycleSteps_eq, stateToRefresh_resetAsserted]
  · simp [cycleSteps_eq, stateToRefresh_pins]
  · rw [hlines, cycleSteps_eq, withResult_gpio, refreshFromPulls, hdrive, hclock]
    exact refreshPins_gpio_congr (stateToRefresh_gpio ..)
  · simp [cycleSteps_eq]
  · rw [cycleSteps_eq, withResult_events, refreshFromPulls, refreshPins_events]
    exact stateToRefresh_events c _ snap rfl
  · rw [hlines, cycleSteps_eq, withResult_hw, refreshFromPulls, refreshPins_hw_eq, hdrive, hclock, stateToRefresh_hw]
    rfl

theorem exec_cycle_leaves {c : Config} {s t : State} {levels : Mask} {snap : Option PortState} {led sound : Bool}
    (hs : Ready c s) (h : exec (.cycle levels snap led sound) s = .next t) :
    CycleLeaves c levels snap led sound s t := by
  obtain ⟨-, c', hc', hsnap, rfl⟩ := execCycle_next h
  obtain rfl : c' = c := Option.some.inj (hc'.symm.trans hs.2)
  exact cycleSteps_leaves hsnap levels led sound s

/-! The decode leaves the samples and the lines with no chip pull. -/

theorem decodedLines_atn (c : Config) (snap last : Option PortState) (ls : Lines) :
    (decodedLines c snap last ls).atn = ls.atn := by
  unfold decodedLines
  repeat' split
  all_goals rfl

theorem decodedLines_srq (c : Config) (snap last : Option PortState) (ls : Lines) :
    (decodedLines c snap last ls).srq = ls.srq := by
  unfold decodedLines
  repeat' split
  all_goals rfl

theorem decodedLines_reset (c : Config) (snap last : Option PortState) (ls : Lines) :
    (decodedLines c snap last ls).reset = ls.reset := by
  unfold decodedLines
  repeat' split
  all_goals rfl

theorem decodedLines_data_sensedHigh (c : Config) (snap last : Option PortState) (ls : Lines) :
    (decodedLines c snap last ls).data.sensedHigh = ls.data.sensedHigh := by
  unfold decodedLines
  repeat' split
  all_goals rfl

theorem decodedLines_clock_sensedHigh (c : Config) (snap last : Option PortState) (ls : Lines) :
    (decodedLines c snap last ls).clock.sensedHigh = ls.clock.sensedHigh := by
  unfold decodedLines
  repeat' split
  all_goals rfl

section
variable {c : Config} {levels : Mask} {snap : Option PortState} {led sound : Bool} {s t : State}
  (h : CycleLeaves c levels snap led sound s t)
include h

theorem CycleLeaves.atn_sensedHigh : t.lines.atn.sensedHigh = lineLevel c (pinLevels c levels) .atn := by
  rw [h.lines, cycleLines, decodedLines_atn]
  rfl

theorem CycleLeaves.data_sensedHigh : t.lines.data.sensedHigh =
    (s.lines.data.pulledLowByDrive || s.lines.data.pulledLowByChipOutput ||
      lineLevel c (pinLevels c levels) .data) := by
  rw [h.lines, cycleLines, decodedLines_data_sensedHigh]
  rfl

theorem CycleLeaves.clock_sensedHigh : t.lines.clock.sensedHigh =
    (s.lines.clock.pulledLowByChipOutput || lineLevel c (pinLevels c levels) .clock) := by
  rw [h.lines, cycleLines, decodedLines_clock_sensedHigh]
  rfl

/-- R104: whether this cycle's sample of ATN differs from the last one. -/
theorem CycleLeaves.atnChanges : atnChanges c (pinLevels c levels) s.lines =
    (t.lines.atn.sensedHigh != s.lines.atn.sensedHigh) := by
  rw [h.atn_sensedHigh]
  rfl

end

/-- Settles O35: the closed form of the five samples. -/
theorem cycleSamplesEveryLine : Obligations.CycleSamplesEveryLine := by
  intro c s t levels snap led sound hs hexec level
  have h := exec_cycle_leaves hs hexec
  have hlevel (l : LineId) : lineLevel c (pinLevels c levels) l = level (linePin c l) := lineLevel_eq ..
  refine ⟨h.atn_sensedHigh.trans (hlevel .atn), ?_, ?_, ?_, h.data_sensedHigh.trans ?_, h.clock_sensedHigh.trans ?_⟩
  · rw [h.lines, cycleLines, decodedLines_srq]
    exact hlevel .srq
  · rw [h.lines, cycleLines, decodedLines_reset]
    exact hlevel .reset
  · rw [h.resetAsserted, hlevel]
    rfl
  · rw [hlevel]
    rfl
  · rw [hlevel]
    rfl

/-! Nothing stale (R60, R226). -/

/-- The gate of the model is the gate of R121. -/
theorem gate_eq_gateValue (c : Config) (o a d : Bool) : gate c o a d = gateValue c.chipKind o a d := by
  unfold gate
  cases c.chipKind <;> cases d <;> simp [gateValue, Bool.bne_eq_xor]

/-- The gate and the chip pulls of a state whose last decoded port is `p`. -/
def PullsOf (c : Config) (p : PortState) (ls : Lines) (g : Bool) : Prop :=
  g = gate c (portBit p.out c.portMap.atnaOut) (!ls.atn.sensedHigh) (portBit p.dir c.portMap.atnaOut) ∧
  ls.data.pulledLowByChipOutput = wantsLow p.out p.dir c.portMap.dataOut ∧
  ls.clock.pulledLowByChipOutput = wantsLow p.out p.dir c.portMap.clockOut

theorem coherent_iff {c : Config} {s : State} :
    s.Coherent c ↔ ∀ p, s.lastApplied = some p → PullsOf c p s.lines s.pullDataLow := by
  simp only [State.Coherent, PullsOf, asserted_atn]

/-- Sensing with the snapshot that was decoded last keeps its pulls: an ATN transition recomputes the gate. -/
theorem sensedLines_pullsOf {c : Config} {levels : Mask} {p : PortState} {ls : Lines} {g : Bool}
    (h : PullsOf c p ls g) :
    PullsOf c p (sensedLines c levels (some p) ls) (sensedGate c levels (some p) ls g) := by
  obtain ⟨hgate, hdata, hclock⟩ := h
  refine ⟨?_, hdata, hclock⟩
  unfold sensedGate
  cases hatn : atnChanges c levels ls with
  | true => rfl
  | false =>
    have hsame : lineLevel c levels .atn = ls.atn.sensedHigh := bne_eq_false_iff_eq.1 hatn
    simp only [sensedLines, sampledLines, hsame]
    exact hgate

/-- After step 4 the pulls are those of the snapshot: it has just been decoded, or it was the last one decoded. -/
theorem decodedLines_pullsOf {c : Config} {p : PortState} {last : Option PortState} {ls : Lines} {g : Bool}
    (h : last = some p → PullsOf c p ls g) :
    PullsOf c p (decodedLines c (some p) last ls) (decodedGate c (some p) last ls g) := by
  unfold decodedLines decodedGate
  by_cases hlast : last = some p
  · simp only [if_pos hlast]
    exact h hlast
  · simp only [if_neg hlast]
    exact ⟨rfl, rfl, rfl⟩

/-- Settles O36: when the snapshot is the last decoded port, sensing keeps its pulls, and otherwise the decode sets
them. -/
theorem cycleLeavesNoStalePull : Obligations.CycleLeavesNoStalePull := by
  intro c s t levels p led sound hs hcoherent htotal hexec
  have h := exec_cycle_leaves hs hexec
  have hlast : t.lastApplied = some p := h.lastApplied
  have hpulls : PullsOf c p t.lines t.pullDataLow := by
    rw [h.lines, h.gate]
    exact decodedLines_pullsOf fun hp => sensedLines_pullsOf (coherent_iff.1 hcoherent p hp)
  have htotal' : t.DataPullTotal := dataPullIsGateOrChip _ s t htotal hexec |>.1
  obtain ⟨hgate, hdata, hclock⟩ := hpulls
  refine ⟨coherent_iff.2 fun q hq => ?_, hlast, by rw [hgate, gate_eq_gateValue]; rfl, hdata, hclock, ?_⟩
  · obtain rfl : p = q := Option.some.inj (hlast.symm.trans hq)
    exact ⟨hgate, hdata, hclock⟩
  · rw [htotal', hdata]
    rfl

end Sys2Proof.Proofs
end

-- ==== Proofs: The trace of a CYCLE ====
section
/-! The trace of a CYCLE is its pin read, its chip calls, and the writes of its Refresh; the statements about the calls
of a CYCLE are read off these three parts (R133, R190, R195, R231). -/

namespace Sys2Proof.Proofs

open Sys2Proof Sys2Proof.Machine Sys2Proof.Statements

/-! What kind of call each part makes. -/

theorem isPinWrite_of_isChipCall {h : HwCall} (hc : isChipCall h = true) : isPinWrite h = false := by
  cases h <;> simp_all [isChipCall, isPinWrite]

theorem isChipCall_of_isPinWrite {h : HwCall} (hc : isPinWrite h = true) : isChipCall h = false := by
  cases h <;> simp_all [isChipCall, isPinWrite]

theorem feedCalls_chip (bit : Nat) (before after : Bool) : ∀ h ∈ feedCalls bit before after, isChipCall h = true := by
  unfold feedCalls
  split <;> simp [isChipCall]

theorem inputCalls_chip (c : Config) (ls : Lines) (f : Fed) : ∀ h ∈ inputCalls c ls f, isChipCall h = true := by
  unfold inputCalls
  split
  · intro h hh
    rcases List.mem_append.1 hh with hh | hh
    · exact feedCalls_chip _ _ _ h hh
    · exact feedCalls_chip _ _ _ h hh
  · simp

theorem sensedCalls_chip (c : Config) (levels : Mask) (ls : Lines) :
    ∀ h ∈ sensedCalls c levels ls, isChipCall h = true := by
  unfold sensedCalls atnCalls
  split
  · cases c.chipKind <;> simp [isChipCall]
  · simp

section
variable (c : Config) (levels : Mask) (snap last : Option PortState) (ls : Lines) (f : Fed)

theorem cycleChipCalls_chip : ∀ h ∈ cycleChipCalls c levels snap last ls f, isChipCall h = true := by
  intro h hh
  rcases List.mem_append.1 hh with hh | hh
  · rcases List.mem_append.1 hh with hh | hh
    · exact sensedCalls_chip _ _ _ h hh
    · exact inputCalls_chip _ _ _ h hh
  · exact inputCalls_chip _ _ _ h hh

theorem refreshCalls_pinWrite (d k led sound : Bool) : ∀ h ∈ refreshCalls c d k led sound, isPinWrite h = true := by
  unfold refreshCalls
  split <;> simp [isPinWrite]

/-! How many calls each part makes (R195). -/

theorem feedCalls_length (bit : Nat) (before after : Bool) : (feedCalls bit before after).length ≤ 1 := by
  unfold feedCalls
  split <;> simp

theorem inputCalls_length : (inputCalls c ls f).length ≤ 2 := by
  unfold inputCalls
  split
  · have hdata := feedCalls_length c.portMap.dataIn f.data (dataAsserted ls)
    have hclock := feedCalls_length c.portMap.clockIn f.clock (clockAsserted ls)
    rw [List.length_append]
    omega
  · simp

theorem sensedCalls_length : (sensedCalls c levels ls).length ≤ 2 := by
  unfold sensedCalls atnCalls
  split
  · cases c.chipKind <;> simp
  · simp

theorem cycleChipCalls_length : (cycleChipCalls c levels snap last ls f).length ≤ 6 := by
  have hsensed := sensedCalls_length c levels ls
  have hfirst := inputCalls_length c (sensedLines c levels snap ls) (sensedFed c levels ls f)
  have hsecond := inputCalls_length c (cycleLines c levels snap last ls) (midFed c levels snap ls f)
  rw [cycleChipCalls, List.length_append, List.length_append]
  omega

theorem refreshCalls_length (d k led sound : Bool) :
    (refreshCalls c d k led sound).length = if c.splitLines then 2 else 4 := by
  unfold refreshCalls
  split <;> rfl

end

/-! The trace by kinds of call. -/

section
variable {c : Config} {levels : Mask} {snap : Option PortState} {led sound : Bool} {s t : State}
  (h : CycleLeaves c levels snap led sound s t)
include h

theorem CycleLeaves.filter_chip : t.out.hw.filter isChipCall =
    cycleChipCalls c (pinLevels c levels) snap s.lastApplied s.lines s.fed := by
  have hchip := List.filter_eq_self.2
    (cycleChipCalls_chip c (pinLevels c levels) snap s.lastApplied s.lines s.fed)
  have hpins : (refreshCalls c t.lines.data.pulledLowByDrive t.lines.clock.pulledLowByChipOutput led sound).filter
      isChipCall = [] :=
    List.filter_eq_nil_iff.2 fun x hx => by simp [isChipCall_of_isPinWrite (refreshCalls_pinWrite _ _ _ _ _ x hx)]
  rw [h.hw, List.filter_cons_of_neg (by simp [isChipCall]), List.filter_append, hchip, hpins, List.append_nil]

theorem CycleLeaves.filter_pinWrite : t.out.hw.filter isPinWrite =
    refreshCalls c t.lines.data.pulledLowByDrive t.lines.clock.pulledLowByChipOutput led sound := by
  have hchip : (cycleChipCalls c (pinLevels c levels) snap s.lastApplied s.lines s.fed).filter isPinWrite = [] :=
    List.filter_eq_nil_iff.2 fun x hx => by
      simp [isPinWrite_of_isChipCall (cycleChipCalls_chip _ _ _ _ _ _ x hx)]
  have hpins := List.filter_eq_self.2
    (refreshCalls_pinWrite c t.lines.data.pulledLowByDrive t.lines.clock.pulledLowByChipOutput led sound)
  rw [h.hw, List.filter_cons_of_neg (by simp [isPinWrite]), List.filter_append, hchip, hpins, List.nil_append]

end

/-- Settles O33: the snapshot is the one thing a CYCLE checks, and its trace is its pin read, then its chip calls and
its pin writes. -/
theorem cycleRunsToCompletion : Obligations.CycleRunsToCompletion := by
  intro c s levels snap led sound hs hsnap
  have hmatches := snapshotMatches_eq_true hsnap
  have h := cycleSteps_leaves hmatches levels led sound s
  refine ⟨_, exec_cycle_ready hs levels led sound hmatches, h.cfg, h.mark, h.calls, h.result, _, h.hw, ?_⟩
  rw [List.all_append, Bool.and_eq_true, List.all_eq_true, List.all_eq_true]
  refine ⟨fun x hx => ?_, fun x hx => ?_⟩
  · rw [cycleChipCalls_chip _ _ _ _ _ _ x hx, Bool.true_or]
  · rw [refreshCalls_pinWrite _ _ _ _ _ x hx, Bool.or_true]

/-- Settles O39: two chip calls of an ATN transition, two of each propagation, and the writes of one Refresh. -/
theorem cycleWorkIsBounded : Obligations.CycleWorkIsBounded := by
  intro c s t levels snap led sound hs hexec
  have h := exec_cycle_leaves hs hexec
  rw [List.countP_eq_length_filter, List.countP_eq_length_filter, h.filter_chip, h.filter_pinWrite]
  refine ⟨cycleChipCalls_length .., refreshCalls_length .., ?_⟩
  rw [h.hw, List.length_cons, List.length_append]
  omega

/-! What the chip is told (R125, R126, R133). -/

theorem atnCalls_attached {c : Config} (h : chipAttached c = true) (a : Bool) : atnCalls c a =
    [.setPortInput c.portMap.atnIn a, if c.chipKind = .variantA then .signalEdgeInput a else .setLevelFlag a] := by
  unfold atnCalls
  cases hk : c.chipKind <;> simp [chipAttached, hk] at h ⊢

/-- Settles O37: the closed form of the chip calls, with a chip attached. -/
theorem cycleFeedsChipThisCyclesValues : Obligations.CycleFeedsChipThisCyclesValues := by
  intro c s t levels p led sound hs hexec atn atnChanged atnCalls' gatePull drivePull sensedData sensedClock
  have h := exec_cycle_leaves hs hexec
  have hchip : chipAttached c = true := chipAttached_of_some h.snapshot
  have hchanged : atnChanges c (pinLevels c levels) s.lines = atnChanged := h.atnChanges
  have hatn : (!lineLevel c (pinLevels c levels) .atn) = atn := congrArg (!·) h.atn_sensedHigh.symm
  have hcalls : sensedCalls c (pinLevels c levels) s.lines = atnCalls' := by
    rw [sensedCalls, hchanged, hatn, atnCalls_attached hchip]
  have hfed : sensedFed c (pinLevels c levels) s.lines s.fed =
      ⟨if atnChanged then atn else s.fed.atn, s.fed.data, s.fed.clock⟩ := by
    rw [sensedFed, hchanged, hatn, hchip, Bool.and_true]
    split <;> rfl
  have hgate : atnGate c (pinLevels c levels) (some p) = gatePull := by
    rw [atnGate, hatn, gate_eq_gateValue]
    rfl
  have hdrive : sensedDrive c (pinLevels c levels) (some p) s.lines = drivePull := by
    rw [sensedDrive, hchanged, hgate]
  have hdata : dataAsserted (sensedLines c (pinLevels c levels) (some p) s.lines) = sensedData := by
    have hsample := h.data_sensedHigh
    simp only [dataAsserted, sensedLines, hdrive, sampledLines, sensedData, hsample]
  have hclock : clockAsserted (sensedLines c (pinLevels c levels) (some p) s.lines) = sensedClock := by
    have hsample := h.clock_sensedHigh
    simp only [clockAsserted, sensedLines, sampledLines, sensedClock, hsample]
  have hmid : midFed c (pinLevels c levels) (some p) s.lines s.fed =
      ⟨if atnChanged then atn else s.fed.atn, sensedData, sensedClock⟩ := by
    rw [midFed, propagatedFed, if_pos hchip, hfed, hdata, hclock]
  have hdataEnd : dataAsserted t.lines = t.asserted .data := (asserted_data t).symm
  have hclockEnd : clockAsserted t.lines = t.asserted .clock := (asserted_clock t).symm
  refine ⟨?_, ?_⟩
  · rw [h.filter_chip, cycleChipCalls, hcalls, hfed, hmid, ← h.lines]
    simp only [inputCalls, if_pos hchip, hdata, hclock, hdataEnd, hclockEnd, List.append_assoc]
  · rw [h.fed, hmid, propagatedFed, if_pos hchip, hdataEnd, hclockEnd]

theorem inputCalls_noEdge (c : Config) (ls : Lines) (f : Fed) : (inputCalls c ls f).filter isEdgeCall = [] := by
  unfold inputCalls feedCalls
  repeat' split
  all_goals rfl

theorem refreshCalls_noEdge (c : Config) (d k led sound : Bool) :
    (refreshCalls c d k led sound).filter isEdgeCall = [] := by
  unfold refreshCalls
  split <;> rfl

/-- Settles O42: the edge input is signalled by the ATN transition of the sensing phase alone. -/
theorem cycleSignalsEdgeOncePerTransition : Obligations.CycleSignalsEdgeOncePerTransition := by
  intro c s t levels snap led sound hs hexec
  have h := exec_cycle_leaves hs hexec
  have htrace : t.out.hw.filter isEdgeCall = (sensedCalls c (pinLevels c levels) s.lines).filter isEdgeCall := by
    rw [h.hw, List.filter_cons_of_neg (by simp [isEdgeCall]), cycleChipCalls]
    simp only [List.filter_append, inputCalls_noEdge, refreshCalls_noEdge, List.append_nil]
  rw [htrace, sensedCalls, h.atnChanges, ← h.atn_sensedHigh]
  by_cases hatn : t.lines.atn.sensedHigh = s.lines.atn.sensedHigh
  · simp [hatn]
  · rw [if_pos (bne_iff_ne.2 hatn)]
    unfold atnCalls
    cases hk : c.chipKind <;> simp [isEdgeCall, hatn]

/-! A repeated CYCLE (R190). -/

section
variable {c : Config} {levels : Mask} {snap : Option PortState} {led sound : Bool} {s t u : State}
  (ht : CycleLeaves c levels snap led sound s t) (hu : CycleLeaves c levels snap led sound t u)
  (hlines : u.lines = t.lines)
include ht

/-- ATN was sampled at this very level a cycle ago. -/
theorem CycleLeaves.repeated_atn : Proofs.atnChanges c (pinLevels c levels) t.lines = false := by
  rw [Proofs.atnChanges, ht.atn_sensedHigh, bne_self_eq_false]

/-- The repeated cycle has nothing to decode. -/
theorem CycleLeaves.repeated_decode (ls : Lines) : decodedLines c snap t.lastApplied ls = ls := by
  rw [ht.lastApplied]
  cases snap with
  | none => rfl
  | some p => exact if_pos rfl

/-- What was last fed is what a propagation of these lines feeds. -/
theorem CycleLeaves.repeated_fed : propagatedFed c t.lines t.fed = t.fed := by
  rw [ht.fed]
  unfold propagatedFed
  split <;> rfl

theorem CycleLeaves.repeated_inputCalls : inputCalls c t.lines t.fed = [] := by
  have hfed := ht.repeated_fed
  unfold inputCalls
  split
  · next hchip =>
    rw [← hfed]
    simp [propagatedFed, hchip, feedCalls]
  · rfl

include hu hlines

theorem CycleLeaves.repeated_sensedLines : sensedLines c (pinLevels c levels) snap t.lines = t.lines := by
  rw [← ht.repeated_decode (sensedLines c (pinLevels c levels) snap t.lines)]
  exact hu.lines.symm.trans hlines

theorem CycleLeaves.repeated_midFed : midFed c (pinLevels c levels) snap t.lines t.fed = t.fed := by
  rw [midFed, ht.repeated_sensedLines hu hlines, sensedFed, ht.repeated_atn, Bool.false_and]
  exact ht.repeated_fed

theorem CycleLeaves.repeated_chipCalls :
    cycleChipCalls c (pinLevels c levels) snap t.lastApplied t.lines t.fed = [] := by
  rw [cycleChipCalls, cycleLines, ht.repeated_midFed hu hlines, ht.repeated_sensedLines hu hlines,
    ht.repeated_decode, sensedCalls, sensedFed, ht.repeated_atn]
  simp [ht.repeated_inputCalls]

end

/-- Settles O43: with the same levels, snapshot and lines there is no transition, no changed input and nothing to
decode, and the Refresh has the same operands. -/
theorem cycleRepeatedMakesNoChipCall : Obligations.CycleRepeatedMakesNoChipCall := by
  intro s t u levels snap led sound hst htu hlines
  obtain ⟨c, hs⟩ := exec_next_ready (by simp) hst
  have ht := exec_cycle_leaves hs hst
  have hready : Ready c t := ⟨ht.mark.trans hs.1, ht.cfg.trans hs.2⟩
  have hu := exec_cycle_leaves hready htu
  have hnone : u.out.hw.filter isChipCall = [] := by rw [hu.filter_chip, ht.repeated_chipCalls hu hlines]
  refine ⟨?_, ?_, ?_, ?_⟩
  · simpa [List.filter_eq_nil_iff, List.all_eq_true] using hnone
  · rw [hu.gpio, hlines]
    exact refreshPins_gpio_twice ht.gpio
  · rw [hu.fed, hlines, ht.repeated_midFed hu hlines, ht.repeated_fed]
  · rw [hu.filter_pinWrite, ht.filter_pinWrite, hlines]

end Sys2Proof.Proofs
end

-- ==== Proofs: The events of a CYCLE ====
section
/-! Which events a CYCLE hands back, and in which order (R179, R196). -/

namespace Sys2Proof.Proofs

open Sys2Proof Sys2Proof.Machine Sys2Proof.Statements

/-- Events made in index order, at most one an index, have increasing indices. -/
theorem filterMap_range_increasing {α : Type} {f : Nat → Option (Nat × α)} (hf : ∀ i x, f i = some x → x.1 = i)
    (n : Nat) : (((List.range n).filterMap f).map Prod.fst).Pairwise (· < ·) := by
  rw [List.pairwise_map, List.pairwise_filterMap]
  refine List.pairwise_lt_range.imp fun hlt x hx y hy => ?_
  rw [hf _ x hx, hf _ y hy]
  exact hlt

theorem mem_buttonEvents {c : Config} {levels : Mask} {n : Nat} {ps : List InputPin} {i : Nat} {k : ButtonEvent} :
    (i, k) ∈ buttonEvents c levels n ps ↔ i < n ∧ (sampleOf c levels ps i).2 = some k := by
  simp [buttonEvents]

theorem rotaryEventOf_eq_some {c : Config} {bs : List (Nat × ButtonEvent)} {ps : List InputPin} {j : Nat}
    {e : Nat × Direction} : rotaryEventOf c bs ps j = some e ↔
      ∃ r, c.rotaryPairs[j]? = some r ∧ (r.primary, ButtonEvent.press) ∈ bs ∧
        (j, if ((ps[r.secondary]?).getD (InputPin.released c)).currentRaw = c.pressedLevel then Direction.second
          else .first) = e := by
  simp only [rotaryEventOf, Option.bind_eq_some_iff, Option.ite_none_right_eq_some, Option.some.injEq]

/-- The pair `j` of a direction event is below the number of pairs, for it is a pair. -/
theorem mem_rotaryEvents {c : Config} {bs : List (Nat × ButtonEvent)} {ps : List InputPin} {e : Nat × Direction} :
    e ∈ rotaryEvents c bs ps c.rotaryPairs.length ↔ rotaryEventOf c bs ps e.1 = some e := by
  constructor
  · intro he
    obtain ⟨j, -, hj⟩ := List.mem_filterMap.1 he
    obtain ⟨r, -, -, heq⟩ := rotaryEventOf_eq_some.1 hj
    have hje : j = e.1 := by rw [← heq]
    rwa [hje] at hj
  · intro he
    obtain ⟨r, hr, -, -⟩ := rotaryEventOf_eq_some.1 he
    exact List.mem_filterMap.2 ⟨e.1, List.mem_range.2 (List.getElem?_eq_some_iff.1 hr).1, he⟩

/-- Settles O40: each of the two lists is made in index order, at most one event an index. -/
theorem cycleEventsAreOrdered : Obligations.CycleEventsAreOrdered := by
  intro c s t levels snap led sound hs hexec
  have h := exec_cycle_leaves hs hexec
  refine ⟨_, _, h.events, filterMap_range_increasing ?_ _, filterMap_range_increasing ?_ _, fun e he => ?_,
    fun e he => ?_⟩
  · intro i x hx
    obtain ⟨k, -, rfl⟩ := Option.map_eq_some_iff.1 hx
    rfl
  · intro j x hx
    obtain ⟨r, -, -, rfl⟩ := rotaryEventOf_eq_some.1 hx
    rfl
  · exact (mem_buttonEvents.1 he).1
  · obtain ⟨r, hr, hpress, -⟩ := rotaryEventOf_eq_some.1 (mem_rotaryEvents.1 he)
    exact ⟨r, hr, hpress⟩

/-- The SAMPLE of a button within a cycle is the SAMPLE of that button called on its own. -/
theorem exec_sample_sampleOf {c : Config} {s : State} {levels : Mask} {i : Nat} {b : Button} {p : InputPin}
    (hs : Ready c s) (hb : c.buttons[i]? = some b) (hp : s.pins[i]? = some p) :
    exec (.sample i (rawLevel levels b.pin)) s = .next { s with
      pins := s.pins.set i (sampleOf c levels s.pins i).1
      out := ⟨((sampleOf c levels s.pins i).2.map (Event.button i)).toList, [], .nothing⟩ } := by
  refine exec_sample_eq hs hb hp ?_
  simp only [sampleOf, threshold_of_getElem? hb, buttonPin_of_getElem? hb, hp, Option.getD_some]

/-- After a cycle's SAMPLEs a button's raw level is this cycle's (R171). -/
theorem sampledPins_currentRaw {c : Config} {levels : Mask} {ps : List InputPin} {i : Nat} {b : Button}
    (hlen : ps.length = c.buttons.length) (hb : c.buttons[i]? = some b) :
    (((sampledPins c levels (nButtons c) ps)[i]?).getD (InputPin.released c)).currentRaw = rawLevel levels b.pin := by
  have hi : i < nButtons c := lt_nButtons_of_getElem? hb
  have hp : ps[i]? = some (ps[i]'(hlen ▸ hi)) := List.getElem?_eq_getElem _
  rw [sampledPins_getElem?, if_pos hi, hp, ← buttonPin_of_getElem? hb]
  exact (samplePin_raws ..).1

/-- Settles O41: the event of each button is that of its SAMPLE, and the ROTARYs read the pins after the SAMPLEs. -/
theorem cycleReportsEveryEvent : Obligations.CycleReportsEveryEvent := by
  intro c s t levels snap led sound hs hlen hexec raw
  have h := exec_cycle_leaves hs hexec
  refine ⟨fun i b k hb => ?_, fun j r b d hr hb => ?_⟩
  · have hi : i < nButtons c := lt_nButtons_of_getElem? hb
    have hp : s.pins[i]? = some (s.pins[i]'(hlen ▸ hi)) := List.getElem?_eq_getElem _
    rw [h.events, button_mem_events, cycleButtonEvents, mem_buttonEvents,
      show raw b.pin = rawLevel (pinLevels c levels) b.pin from rfl, exec_sample_sampleOf hs hb hp]
    cases hk : (sampleOf c (pinLevels c levels) s.pins i).2 <;> simp [hi]
  · rw [h.events, button_mem_events, rotary_mem_events, cycleRotaryEvents, mem_rotaryEvents, rotaryEventOf_eq_some]
    simp only [hr, Option.some.injEq, exists_eq_left', sampledPins_currentRaw hlen hb, Prod.mk.injEq, true_and]
    exact and_congr_right fun _ => eq_comm

end Sys2Proof.Proofs
end

-- ==== Proofs: What does not influence a CYCLE ====
section
/-! The debouncer and the bus do not influence each other (R170), and SRQ influences nothing but its own sample
(R107). -/

namespace Sys2Proof.Proofs

open Sys2Proof Sys2Proof.Machine Sys2Proof.Statements

/-- Settles O48: in the closed form the pins and the events read the pins alone, and the other fields do not read
them. -/
theorem debouncerAndBusAreIsolated : Obligations.DebouncerAndBusAreIsolated := by
  intro c s₁ s₂ t₁ t₂ levels snap led sound hs₁ hs₂ hexec₁ hexec₂
  have h₁ := exec_cycle_leaves hs₁ hexec₁
  have h₂ := exec_cycle_leaves hs₂ hexec₂
  refine ⟨fun hpins => ⟨?_, ?_⟩, fun heq => ?_⟩
  · rw [h₁.pins, h₂.pins, hpins]
  · rw [h₁.events, h₂.events, hpins]
  · have hlines : s₁.lines = s₂.lines := by rw [heq]
    have hgate : s₁.pullDataLow = s₂.pullDataLow := by rw [heq]
    have hlast : s₁.lastApplied = s₂.lastApplied := by rw [heq]
    have hfed : s₁.fed = s₂.fed := by rw [heq]
    have hgpio : s₁.gpio = s₂.gpio := by rw [heq]
    have hlines' : t₁.lines = t₂.lines := by rw [h₁.lines, h₂.lines, hlines, hlast]
    refine ⟨hlines', ?_, ?_, ?_, ?_, ?_, ?_⟩
    · rw [h₁.gate, h₂.gate, hlines, hgate, hlast]
    · rw [h₁.lastApplied, h₂.lastApplied, hlast]
    · rw [h₁.fed, h₂.fed, hlines', hlines, hfed]
    · rw [h₁.resetAsserted, h₂.resetAsserted]
    · rw [h₁.gpio, h₂.gpio, hlines']
      exact refreshPins_gpio_congr hgpio
    · rw [h₁.hw, h₂.hw, hlines', hlines, hlast, hfed]

/-! SRQ. -/

theorem sharedPins_nodup {c : Config} (ha : configAdmitted c = true) : (sharedPins c).Nodup := by
  have hnd := configAdmitted_nodup ha
  split at hnd
  · exact ((List.nodup_cons.1 hnd).2 |> List.nodup_cons.1).2
  · exact hnd

/-- R39: no other line is sensed on the pin of SRQ. -/
theorem linePin_ne_srq {c : Config} (ha : configAdmitted c = true) {l : LineId} (hl : l ≠ .srq) :
    linePin c l ≠ c.pinMap.srq := by
  have hnd := sharedPins_nodup ha
  simp only [sharedPins, List.cons_append, List.nodup_cons, List.mem_cons, not_or] at hnd
  cases l <;> grind [linePin]

/-- R39: no button is read on the pin of SRQ. -/
theorem buttonPin_ne_srq {c : Config} (ha : configAdmitted c = true) {i : Nat} (hi : i < nButtons c) :
    buttonPin c i ≠ c.pinMap.srq := by
  have hget : c.buttons[i]? = some c.buttons[i] := List.getElem?_eq_getElem hi
  have hmem : c.buttons[i].pin ∈ c.buttons.map Button.pin := List.mem_map_of_mem (List.getElem_mem hi)
  have hsrq : c.pinMap.srq ∈ [c.pinMap.atn, c.pinMap.data, c.pinMap.clock, c.pinMap.srq, c.pinMap.reset, c.pinMap.led,
      c.pinMap.sound] := by simp
  rw [buttonPin_of_getElem? hget]
  exact ((List.nodup_append.1 (sharedPins_nodup ha)).2.2 _ hsrq _ hmem).symm

/-- Two level masks that agree but for the pin of SRQ. -/
def AgreeButSrq (c : Config) (l₁ l₂ : Mask) : Prop := ∀ i, i ≠ c.pinMap.srq → l₁.testBit i = l₂.testBit i

section
variable {c : Config} {l₁ l₂ : Mask} (ha : configAdmitted c = true) (hl : AgreeButSrq c l₁ l₂)
include hl

theorem rawLevel_agree {pin : Nat} (hpin : pin ≠ c.pinMap.srq) :
    rawLevel (pinLevels c l₁) pin = rawLevel (pinLevels c l₂) pin := by
  simp only [rawLevel, pinLevels, Nat.testBit_mod_two_pow, hl pin hpin]

include ha

theorem lineLevel_agree {l : LineId} (h : l ≠ .srq) :
    lineLevel c (pinLevels c l₁) l = lineLevel c (pinLevels c l₂) l := by
  rw [lineLevel, lineLevel, rawLevel_agree hl (linePin_ne_srq ha h)]

theorem sampleOf_agree (ps : List InputPin) {i : Nat} (hi : i < nButtons c) :
    sampleOf c (pinLevels c l₁) ps i = sampleOf c (pinLevels c l₂) ps i := by
  rw [sampleOf, sampleOf, rawLevel_agree hl (buttonPin_ne_srq ha hi)]

theorem sampledPins_agree (ps : List InputPin) :
    sampledPins c (pinLevels c l₁) (nButtons c) ps = sampledPins c (pinLevels c l₂) (nButtons c) ps := by
  refine List.ext_getElem? fun i => ?_
  rw [sampledPins_getElem?, sampledPins_getElem?]
  split
  · next hi => rw [sampleOf_agree ha hl ps hi]
  · rfl

theorem cycleButtonEvents_agree (ps : List InputPin) :
    cycleButtonEvents c (pinLevels c l₁) ps = cycleButtonEvents c (pinLevels c l₂) ps :=
  List.filterMap_congr fun i hi => by rw [sampleOf_agree ha hl ps (List.mem_range.1 hi)]

theorem cycleRotaryEvents_agree (ps : List InputPin) :
    cycleRotaryEvents c (pinLevels c l₁) ps = cycleRotaryEvents c (pinLevels c l₂) ps := by
  rw [cycleRotaryEvents, cycleRotaryEvents, cycleButtonEvents_agree ha hl, sampledPins_agree ha hl]

theorem atnChanges_agree (ls : Lines) :
    atnChanges c (pinLevels c l₁) ls = atnChanges c (pinLevels c l₂) ls := by
  rw [atnChanges, atnChanges, lineLevel_agree ha hl (by decide)]

theorem atnGate_agree (snap : Option PortState) :
    atnGate c (pinLevels c l₁) snap = atnGate c (pinLevels c l₂) snap := by
  rw [atnGate, atnGate, lineLevel_agree ha hl (by decide)]

theorem sensedGate_agree (snap : Option PortState) (ls : Lines) (g : Bool) :
    sensedGate c (pinLevels c l₁) snap ls g = sensedGate c (pinLevels c l₂) snap ls g := by
  rw [sensedGate, sensedGate, atnChanges_agree ha hl, atnGate_agree ha hl]

theorem sensedFed_agree (ls : Lines) (f : Fed) :
    sensedFed c (pinLevels c l₁) ls f = sensedFed c (pinLevels c l₂) ls f := by
  rw [sensedFed, sensedFed, atnChanges_agree ha hl, lineLevel_agree ha hl (by decide)]

theorem sensedCalls_agree (ls : Lines) :
    sensedCalls c (pinLevels c l₁) ls = sensedCalls c (pinLevels c l₂) ls := by
  rw [sensedCalls, sensedCalls, atnChanges_agree ha hl, lineLevel_agree ha hl (by decide)]

/-- After sensing the lines differ in the sample of SRQ alone. -/
theorem sensedLines_agree (snap : Option PortState) (ls : Lines) :
    sensedLines c (pinLevels c l₁) snap ls = { sensedLines c (pinLevels c l₂) snap ls with
      srq := { ls.srq with sensedHigh := lineLevel c (pinLevels c l₁) .srq } } := by
  simp only [sensedLines, sampledLines, sensedDrive, atnChanges_agree ha hl, atnGate_agree ha hl,
    lineLevel_agree ha hl (show LineId.atn ≠ .srq by decide), lineLevel_agree ha hl (show LineId.data ≠ .srq by decide),
    lineLevel_agree ha hl (show LineId.clock ≠ .srq by decide),
    lineLevel_agree ha hl (show LineId.reset ≠ .srq by decide)]

end

/-- The decode does not read SRQ. -/
theorem decodedLines_withSrq (c : Config) (snap last : Option PortState) (ls : Lines) (srq : Line) :
    decodedLines c snap last { ls with srq := srq } = { decodedLines c snap last ls with srq := srq } := by
  unfold decodedLines
  repeat' split
  all_goals rfl

theorem decodedGate_withSrq (c : Config) (snap last : Option PortState) (ls : Lines) (srq : Line) (g : Bool) :
    decodedGate c snap last { ls with srq := srq } g = decodedGate c snap last ls g := rfl

theorem propagatedFed_withSrq (c : Config) (ls : Lines) (srq : Line) (f : Fed) :
    propagatedFed c { ls with srq := srq } f = propagatedFed c ls f := rfl

/-- Settles O49: in the closed form no field but the sample of SRQ and the recorded levels reads the pin of SRQ. -/
theorem srqHasNoSideEffect : Obligations.SrqHasNoSideEffect := by
  intro c s t₁ t₂ l₁ l₂ snap led sound hs ha hl hexec₁ hexec₂
  have h₁ := exec_cycle_leaves hs hexec₁
  have h₂ := exec_cycle_leaves hs hexec₂
  have hagree : AgreeButSrq c l₁ l₂ := hl
  have hlines : t₁.lines = { t₂.lines with srq := t₁.lines.srq } := by
    rw [h₁.lines, h₂.lines, cycleLines, cycleLines, sensedLines_agree ha hagree, decodedLines_withSrq]
  have hsrq : t₁.lines.srq = { t₂.lines.srq with sensedHigh := t₁.lines.srq.sensedHigh } := by
    rw [h₁.lines, h₂.lines, cycleLines, cycleLines, decodedLines_srq, decodedLines_srq]
    rfl
  have hmid : midFed c (pinLevels c l₁) snap s.lines s.fed = midFed c (pinLevels c l₂) snap s.lines s.fed := by
    rw [midFed, midFed, sensedLines_agree ha hagree, propagatedFed_withSrq, sensedFed_agree ha hagree]
  have hreset : t₁.resetAsserted = t₂.resetAsserted := by
    rw [h₁.resetAsserted, h₂.resetAsserted, lineLevel_agree ha hagree (by decide)]
  have hcalls : cycleChipCalls c (pinLevels c l₁) snap s.lastApplied s.lines s.fed =
      cycleChipCalls c (pinLevels c l₂) snap s.lastApplied s.lines s.fed := by
    rw [cycleChipCalls, cycleChipCalls, cycleLines, cycleLines, hmid, sensedLines_agree ha hagree,
      decodedLines_withSrq, sensedCalls_agree ha hagree, sensedFed_agree ha hagree]
    rfl
  have hdrive : t₁.lines.data = t₂.lines.data := by rw [hlines]
  have hclock : t₁.lines.clock = t₂.lines.clock := by rw [hlines]
  refine state_eq_of_fields (h₁.cfg.trans h₂.cfg.symm) ?_ ?_ (h₁.lastApplied.trans h₂.lastApplied.symm) ?_ hreset ?_
    (h₁.mark.trans h₂.mark.symm) ?_ (output_eq_of_fields ?_ ?_ ?_) (h₁.calls.trans h₂.calls.symm)
  · exact hlines.trans (congrArg (fun srq => { t₂.lines with srq := srq }) hsrq)
  · rw [h₁.gate, cycleGate, sensedLines_agree ha hagree, decodedGate_withSrq, sensedGate_agree ha hagree]
    exact h₂.gate.symm
  · rw [h₁.fed, hlines, propagatedFed_withSrq, hmid]
    exact h₂.fed.symm
  · rw [h₁.pins, sampledPins_agree ha hagree]
    exact h₂.pins.symm
  · rw [h₁.gpio, hdrive, hclock]
    exact h₂.gpio.symm
  · rw [h₁.events, cycleButtonEvents_agree ha hagree, cycleRotaryEvents_agree ha hagree]
    exact h₂.events.symm
  · rw [h₁.hw, h₂.hw, hcalls, hdrive, hclock]
    rfl
  · rw [h₁.result, hreset]
    exact h₂.result.symm

end Sys2Proof.Proofs
end

-- ==== Proofs: CYCLE as its operations in order ====
section
/-! Calling the operations of a CYCLE one after another leaves what the CYCLE leaves (R191): each call runs the step of
the same name, and no step reads what the calls before it handed back. -/

namespace Sys2Proof.Proofs

open Sys2Proof Sys2Proof.Machine Sys2Proof.Statements

/-- Two states that differ in the output alone. -/
def SameButOut (s t : State) : Prop := s = { t with out := s.out }

theorem sameButOut_clear {s t : State} (h : SameButOut s t) : SameButOut { s with out := .empty } t := by
  rw [h]
  rfl

theorem sampleButton_sameButOut {s t : State} (h : SameButOut s t) (c : Config) (i : Nat) (raw : Bool) :
    SameButOut (sampleButton c i raw s) (sampleButton c i raw t) := by
  rw [h]
  exact state_eq_of_fields (by simp) (by simp) (by simp) (by simp) (by simp) (by simp)
    (by simp only [sampleButton_pins]; rfl) (by simp) (by simp) rfl (by simp)

theorem feedAtn_sameButOut {s t : State} (h : SameButOut s t) (c : Config) (a : Bool) :
    SameButOut (feedAtn c a s) (feedAtn c a t) := by
  rw [h]
  exact state_eq_of_fields (by simp) (by simp) (by simp) (by simp) (by simp) (by simp) (by simp) (by simp) (by simp)
    rfl (by simp)

theorem atnTransition_sameButOut {s t : State} (h : SameButOut s t) (c : Config) (a : Bool)
    (snap : Option PortState) : SameButOut (atnTransition c a snap s) (atnTransition c a snap t) := by
  unfold atnTransition
  rw [feedAtn_sameButOut h c a]
  rfl

theorem senseLine_sameButOut {s t : State} (h : SameButOut s t) (c : Config) (l : LineId) (raw : Bool)
    (snap : Option PortState) : SameButOut (senseLine c l raw snap s) (senseLine c l raw snap t) := by
  by_cases hl : l = .atn
  · subst hl
    have hsampled : SameButOut (s.setSensed .atn (senseLevel c raw)) (t.setSensed .atn (senseLevel c raw)) := by
      rw [h]
      rfl
    have hsensed : s.sensedHigh .atn = t.sensedHigh .atn := by rw [h]; rfl
    simp only [senseLine]
    rcases senseAtn_cases c raw snap s with ⟨hs, heq⟩ | ⟨hs, heq⟩
    · rcases senseAtn_cases c raw snap t with ⟨-, heq'⟩ | ⟨ht, -⟩
      · rwa [heq, heq']
      · exact absurd (hs.trans hsensed) ht
    · rcases senseAtn_cases c raw snap t with ⟨ht, -⟩ | ⟨-, heq'⟩
      · exact absurd (ht.trans hsensed.symm) hs
      · rw [heq, heq']
        exact atnTransition_sameButOut hsampled c _ snap
  · rw [senseLine_eq c l raw snap s hl, senseLine_eq c l raw snap t hl, h]
    cases l <;> rfl

theorem decodePort_sameButOut {s t : State} (h : SameButOut s t) (c : Config) (status dir : Byte) :
    SameButOut (decodePort c status dir s) (decodePort c status dir t) := by
  rw [h]
  rfl

/-! Calls made one after another. -/

theorem execAll_append {is js : List Instr} {s t : State} (h : execAll is s = .next t) :
    execAll (is ++ js) s = execAll js t := by
  induction is generalizing s with
  | nil =>
    cases h
    rfl
  | cons i is ih =>
    rw [execAll] at h
    rw [List.cons_append, execAll]
    split at h
    · exact ih h
    · cases h
    · cases h

/-- From a state that differs from `s` in the output alone, the calls `is` complete, and leave a state that differs from
`s'` in the output alone. -/
def RunsTo (c : Config) (is : List Instr) (s s' : State) : Prop :=
  ∀ u, Ready c u → SameButOut u s → ∃ v, execAll is u = .next v ∧ Ready c v ∧ SameButOut v s'

theorem runsTo_nil (c : Config) (s : State) : RunsTo c [] s s := fun u hu h => ⟨u, rfl, hu, h⟩

theorem RunsTo.append {c : Config} {is js : List Instr} {s s' s'' : State} (h : RunsTo c is s s')
    (h' : RunsTo c js s' s'') : RunsTo c (is ++ js) s s'' := by
  intro u hu hus
  obtain ⟨v, hv, hready, hvs⟩ := h u hu hus
  obtain ⟨w, hw, hready', hws⟩ := h' v hready hvs
  exact ⟨w, (execAll_append hv).trans hw, hready', hws⟩

/-- A call that answers a next state differing from `s'` in the output alone. -/
theorem runsTo_one {c : Config} {i : Instr} {s s' : State}
    (h : ∀ u, Ready c u → SameButOut u s → ∃ v, exec i u = .next v ∧ v.mark = u.mark ∧ v.cfg = u.cfg ∧
      SameButOut v s') : RunsTo c [i] s s' := by
  intro u hu hus
  obtain ⟨v, hv, hmark, hcfg, hvs⟩ := h u hu hus
  refine ⟨v, ?_, ⟨hmark.trans hu.1, hcfg.trans hu.2⟩, hvs⟩
  rw [execAll, hv]
  rfl

/-- One call a step, over a list of steps. -/
theorem runsTo_foldl {α : Type} {c : Config} {call : α → Instr} {f : State → α → State} (xs : List α)
    (h : ∀ x ∈ xs, ∀ s, RunsTo c [call x] s (f s x)) (s : State) : RunsTo c (xs.map call) s (xs.foldl f s) := by
  induction xs generalizing s with
  | nil => exact runsTo_nil c s
  | cons x xs ih =>
    exact (h x List.mem_cons_self s).append (ih (fun y hy => h y (List.mem_cons_of_mem x hy)) (f s x))

theorem sample_runsTo {c : Config} {i : Nat} (hi : i < nButtons c) (raw : Bool) (s : State) :
    RunsTo c [.sample i raw] s (sampleButton c i raw s) :=
  runsTo_one fun _ hu hus => ⟨_, exec_sample_ready hu hi raw, by simp, by simp,
    sampleButton_sameButOut (sameButOut_clear hus) c i raw⟩

theorem sense_runsTo {c : Config} {sel : Selector} {l : LineId} (hl : LineId.ofSelector sel = some l) (raw : Bool)
    {snap : Option PortState} (hsnap : snapshotMatches c snap = true) (s : State) :
    RunsTo c [.sense sel raw snap] s (senseLine c l raw snap s) :=
  runsTo_one fun u hu hus => by
    have h := senseLine_sameButOut (sameButOut_clear hus) c l raw snap
    refine ⟨_, exec_sense_ready hu hl raw fun _ => hsnap, by simp, by simp, ?_⟩
    unfold State.withResult SameButOut
    rw [h]

theorem portOut_runsTo {c : Config} (hchip : chipAttached c = true) (status dir : Byte) (s : State) :
    RunsTo c [.portOut status dir] s (decodePort c status dir s) :=
  runsTo_one fun _ hu hus => ⟨_, exec_portOut_ready hu status dir hchip, rfl, rfl,
    decodePort_sameButOut (sameButOut_clear hus) c status dir⟩

/-! The operations of a cycle. -/

/-- The selector of a line (R79). -/
def selectorOf : LineId → Selector
  | .atn => 0
  | .data => 1
  | .clock => 2
  | .srq => 3
  | .reset => 4

theorem ofSelector_selectorOf (l : LineId) : LineId.ofSelector (selectorOf l) = some l := by cases l <;> rfl

/-- The SAMPLEs of a cycle, by button index. -/
theorem samples_eq (c : Config) (levels : Mask) :
    (c.buttons.mapIdx fun i b => Instr.sample i (rawLevel levels b.pin)) =
      (List.range (nButtons c)).map fun i => .sample i (rawLevel levels (buttonPin c i)) := by
  refine List.ext_getElem? fun i => ?_
  rw [List.getElem?_mapIdx, List.getElem?_map]
  cases hb : c.buttons[i]? with
  | none =>
    have hle : nButtons c ≤ i := List.getElem?_eq_none_iff.1 hb
    rw [List.getElem?_eq_none (by rwa [List.length_range])]
    rfl
  | some b =>
    rw [List.getElem?_range (lt_nButtons_of_getElem? hb), Option.map_some, Option.map_some, buttonPin_of_getElem? hb]

theorem samples_runsTo (c : Config) (levels : Mask) (s : State) :
    RunsTo c (c.buttons.mapIdx fun i b => .sample i (rawLevel levels b.pin)) s (sampleAll c levels s) := by
  rw [samples_eq]
  exact runsTo_foldl _ (fun i hi s => sample_runsTo (List.mem_range.1 hi) _ s) s

theorem senses_runsTo {c : Config} (levels : Mask) {snap : Option PortState} (hsnap : snapshotMatches c snap = true)
    (s : State) :
    RunsTo c ([LineId.data, .clock, .srq, .reset, .atn].map fun l =>
      .sense (selectorOf l) (rawLevel levels (linePin c l)) snap) s (sensingPhase c levels snap s) :=
  runsTo_foldl _ (fun l _ s => sense_runsTo (ofSelector_selectorOf l) _ hsnap s) s

/-- The decode of a cycle that had decoded `last` before. -/
def decodeCalls (snap last : Option PortState) : List Instr :=
  match snap with
  | none => []
  | some p => if last = some p then [] else [.portOut p.out p.dir]

theorem decode_runsTo {c : Config} {snap : Option PortState} (hsnap : snapshotMatches c snap = true) (s : State) :
    RunsTo c (decodeCalls snap s.lastApplied) s (decodeIfChanged c snap s) := by
  cases snap with
  | none => exact runsTo_nil c s
  | some p =>
    simp only [decodeCalls, decodeIfChanged]
    split
    · exact runsTo_nil c s
    · exact portOut_runsTo (chipAttached_of_some hsnap) _ _ s

/-- What the operations of a cycle before its Refresh come to. -/
def opsState (c : Config) (levels : Mask) (snap : Option PortState) (s : State) : State :=
  decodeIfChanged c snap (sensingPhase c levels snap (sampleAll c levels s))

theorem cycleOps_runsTo {c : Config} (levels : Mask) {snap : Option PortState}
    (hsnap : snapshotMatches c snap = true) (s : State) :
    RunsTo c (cycleOps c levels snap s) s (opsState c (pinLevels c levels) snap s) := by
  have hdecode := decode_runsTo hsnap (sensingPhase c (pinLevels c levels) snap (sampleAll c (pinLevels c levels) s))
  rw [sensingPhase_lastApplied, sampleAll_lastApplied] at hdecode
  exact (samples_runsTo c (pinLevels c levels) s).append ((senses_runsTo (pinLevels c levels) hsnap _).append hdecode)

/-- Settles O34: the operations come to the state that the cycle refreshes from, propagation and ROTARY aside, and
these write none of the compared fields. -/
theorem cycleIsItsOperationsInOrder : Obligations.CycleIsItsOperationsInOrder := by
  intro c s levels snap led sound hs hsnap
  have hmatches := snapshotMatches_eq_true hsnap
  have h := cycleSteps_leaves hmatches levels led sound s
  obtain ⟨v, hv, hready, hvs⟩ := cycleOps_runsTo levels hmatches s s hs rfl
  have hlines : v.lines = cycleLines c (pinLevels c levels) snap s.lastApplied s.lines := by
    rw [hvs]
    simp [opsState, decodeIfChanged_lines, sensingPhase_lines, cycleLines]
  have hgate : v.pullDataLow = cycleGate c (pinLevels c levels) snap s.lastApplied s.lines s.pullDataLow := by
    rw [hvs]
    simp [opsState, decodeIfChanged_pullDataLow, sensingPhase_lines, sensingPhase_pullDataLow, cycleGate]
  have hlast : v.lastApplied = snap.or s.lastApplied := by
    rw [hvs]
    simp [opsState, decodeIfChanged_lastApplied_eq]
  have hreset : v.resetAsserted = resetCondition c (lineLevel c (pinLevels c levels) .reset) := by
    rw [hvs]
    simp [opsState, sensingPhase_resetAsserted]
  have hpins : v.pins = sampledPins c (pinLevels c levels) (nButtons c) s.pins := by
    rw [hvs]
    simp [opsState, sampleAll_pins]
  have hgpio : v.gpio = s.gpio := by
    rw [hvs]
    simp [opsState]
  refine ⟨_, v, _, exec_cycle_ready hs levels led sound hmatches, hv, exec_refresh_ready hready .., ?_, ?_, ?_, ?_, ?_,
    ?_⟩
  · rw [h.lines, ← hlines]
    simp
  · rw [h.gate, ← hgate]
    simp
  · rw [h.lastApplied, ← hlast]
    simp
  · rw [h.resetAsserted, ← hreset]
    simp
  · rw [h.pins, ← hpins]
    simp
  · rw [h.gpio, h.lines, ← hlines]
    exact refreshPins_gpio_congr hgpio

end Sys2Proof.Proofs
end

-- ==== Proofs: SENSE ====
section
/-! SENSE of each line on a running session (R101 to R106, R109). -/

namespace Sys2Proof.Proofs

open Sys2Proof Sys2Proof.Machine Sys2Proof.Statements

theorem senseLevel_eq_bne (c : Config) (raw : Bool) : senseLevel c raw = (raw != c.invertInputs) := by
  simp [senseLevel, Bool.bne_eq_xor]

theorem not_senseLevel (c : Config) (raw : Bool) : (!senseLevel c raw) = (raw == c.invertInputs) := by
  rw [senseLevel_eq_bne, bne, Bool.not_not]

section
variable {c : Config} {s : State} (hs : Ready c s) (raw : Bool) (snap : Option PortState)
include hs

/-- SENSE of DATA, forced by either pull (R102, R103). -/
theorem exec_sense_data : exec (.sense 1 raw snap) s = .next { s with
    lines := { s.lines with data := { s.lines.data with sensedHigh := s.forced .data || senseLevel c raw } }
    out := ⟨[], [], .sensed (s.forced .data || senseLevel c raw)
      (!(s.forced .data || senseLevel c raw) || s.lines.data.pulledLowByDrive ||
        s.lines.data.pulledLowByChipOutput)⟩ } := by
  rw [exec_sense_ready hs (l := .data) rfl raw (by simp), asserted_data, senseLine, sensePullable_eq]
  rfl

/-- SENSE of CLOCK, forced by the chip's pull (R102, R103). -/
theorem exec_sense_clock : exec (.sense 2 raw snap) s = .next { s with
    lines := { s.lines with
      clock := { s.lines.clock with sensedHigh := s.lines.clock.pulledLowByChipOutput || senseLevel c raw } }
    out := ⟨[], [], .sensed (s.lines.clock.pulledLowByChipOutput || senseLevel c raw)
      (!(s.lines.clock.pulledLowByChipOutput || senseLevel c raw) || s.lines.clock.pulledLowByChipOutput)⟩ } := by
  rw [exec_sense_ready hs (l := .clock) rfl raw (by simp), asserted_clock, senseLine, sensePullable_eq, forced_clock]
  rfl

/-- SENSE of SRQ (R107). -/
theorem exec_sense_srq : exec (.sense 3 raw snap) s = .next { s with
    lines := { s.lines with srq := { s.lines.srq with sensedHigh := senseLevel c raw } }
    out := ⟨[], [], .sensed (senseLevel c raw) (!senseLevel c raw)⟩ } := by
  rw [exec_sense_ready hs (l := .srq) rfl raw (by simp), asserted_srq]
  rfl

/-- SENSE of RESET (R106). -/
theorem exec_sense_reset : exec (.sense 4 raw snap) s = .next { s with
    lines := { s.lines with reset := { s.lines.reset with sensedHigh := senseLevel c raw } }
    resetAsserted := resetCondition c (senseLevel c raw)
    out := ⟨[], [], .sensed (senseLevel c raw) (!senseLevel c raw)⟩ } := by
  rw [exec_sense_ready hs (l := .reset) rfl raw (by simp), asserted_reset]
  rfl

end

/-- Settles O6: a pull forces the sample, and keeps the line asserted. -/
theorem senseForcedLineIgnoresRaw : Obligations.SenseForcedLineIgnoresRaw := by
  intro c s raw snap hs
  refine ⟨fun hpull => ?_, fun hpull => ?_⟩
  · have hforced : s.forced .data = true := by rw [forced_data, Bool.or_eq_true]; exact hpull
    have hasserted : (s.lines.data.pulledLowByDrive || s.lines.data.pulledLowByChipOutput) = true := hforced
    rw [exec_sense_data hs, hforced, Bool.or_assoc, hasserted]
    rfl
  · rw [exec_sense_clock hs, hpull]
    rfl

/-- Settles O7: with no pull the sample is the normalised level, and the line is asserted by it alone. -/
theorem senseFreeLineStoresNormalisedLevel : Obligations.SenseFreeLineStoresNormalisedLevel := by
  intro c s raw snap hs
  refine ⟨fun hdrive hchip => ?_, fun hchip => ?_, ?_⟩
  · simp only [exec_sense_data hs, forced_data, hdrive, hchip, Bool.or_false, Bool.false_or, not_senseLevel]
    simp only [senseLevel_eq_bne]
  · simp only [exec_sense_clock hs, hchip, Bool.or_false, Bool.false_or, not_senseLevel]
    simp only [senseLevel_eq_bne]
  · simp only [exec_sense_srq hs, not_senseLevel]
    simp only [senseLevel_eq_bne]

/-- Settles O8: the reported condition is computed from the sample just stored. -/
theorem senseResetReportsCondition : Obligations.SenseResetReportsCondition := by
  intro c s raw snap hs
  simp only [exec_sense_reset hs, resetCondition, not_senseLevel]
  simp only [senseLevel_eq_bne]

/-- Settles O9: ATN is never forced. -/
theorem senseAtnAlwaysSampled : Obligations.SenseAtnAlwaysSampled := by
  intro c s raw snap hs hsnap
  refine ⟨_, exec_sense_ready hs (l := .atn) rfl raw fun _ => snapshotMatches_eq_true hsnap, ?_⟩
  have hsample := senseLine_sensedHigh c .atn .atn raw snap { s with out := .empty }
  rw [← senseLevel_eq_bne]
  exact hsample

/-- Settles O10: SENSE of ATN stores the sample, and on a change runs the body of ATNEDGE on the state that holds it. -/
theorem senseAtnNotifiesOnTransition : Obligations.SenseAtnNotifiesOnTransition := by
  intro c s raw snap hs hsnap level sampled
  have hmatches := snapshotMatches_eq_true hsnap
  have hlevel : senseLevel c raw = level := senseLevel_eq_bne c raw
  have hsampled : Ready c sampled := hs
  rw [exec_sense_ready hs (l := .atn) rfl raw fun _ => hmatches, senseLine]
  rcases senseAtn_cases c raw snap { s with out := .empty } with ⟨hsame, heq⟩ | ⟨hdiff, heq⟩
  · refine ⟨fun _ => ?_, fun hne => absurd (hsame.symm.trans hlevel) hne⟩
    rw [heq, asserted_atn, hlevel]
    rfl
  · refine ⟨fun h => absurd (hlevel.trans h.symm) hdiff, fun _ => ⟨_, exec_atnEdge_ready hsampled _ hmatches, ?_⟩⟩
    rw [heq, asserted_atn, atnTransition_lines, hlevel, atnTransition_sensedHigh]
    rfl

/-! SENSE twice (R103). -/

theorem setSensed_of_sensedHigh {s : State} {l : LineId} {v : Bool} (h : s.sensedHigh l = v) : s.setSensed l v = s := by
  subst h
  cases l <;> rfl

/-- The pulls of a line are as they were after its SENSE. -/
theorem senseLine_forced (c : Config) (l : LineId) (raw : Bool) (snap : Option PortState) (s : State) :
    (senseLine c l raw snap s).forced l = s.forced l := by cases l <;> rfl

/-- A SENSE that finds its own sample, and for RESET its own condition, changes nothing. -/
theorem senseLine_of_sensed {c : Config} {l : LineId} {raw : Bool} {snap : Option PortState} {s : State}
    (hsample : s.sensedHigh l = if s.forced l then true else senseLevel c raw)
    (hreset : l = .reset → s.resetAsserted = resetCondition c (senseLevel c raw)) :
    senseLine c l raw snap s = s := by
  by_cases hl : l = .atn
  · subst hl
    have hsame : senseLevel c raw = s.sensedHigh .atn := hsample.symm
    rcases senseAtn_cases c raw snap s with ⟨-, heq⟩ | ⟨hdiff, -⟩
    · rw [senseLine, heq, hsame, setSensed_of_sensedHigh rfl]
    · exact absurd hsame hdiff
  · rw [senseLine_eq c l raw snap s hl, setSensed_of_sensedHigh hsample]
    split
    · next h => rw [← hreset h]
    · rfl

/-- Settles O11: the first SENSE leaves its sample, so the second one changes nothing. -/
theorem senseTwiceIsSenseOnce : Obligations.SenseTwiceIsSenseOnce := by
  intro sel raw snap s t h
  obtain ⟨hm, c, l, hc, hl, hsnap, rfl⟩ := execSense_next h
  have hready : Ready c ((senseLine c l raw snap { s with out := .empty }).withResult
      (.sensed ((senseLine c l raw snap { s with out := .empty }).sensedHigh l)
        ((senseLine c l raw snap { s with out := .empty }).asserted l))) := ⟨by simpa using hm, by simpa using hc⟩
  have hsample := senseLine_sensedHigh c l l raw snap { s with out := .empty }
  rw [if_pos rfl, ← senseLine_forced c l raw snap { s with out := .empty }] at hsample
  refine ⟨_, exec_sense_ready hready hl raw hsnap, ?_⟩
  rw [senseLine_of_sensed]
  · exact ⟨rfl, rfl, rfl⟩
  · exact hsample
  · rintro rfl
    rfl

end Sys2Proof.Proofs
end

-- ==== Proofs: ATNEDGE and PORTOUT ====
section
/-! The gate (R121, R123), and what its two callers store (R125, R130). -/

namespace Sys2Proof.Proofs

open Sys2Proof Sys2Proof.Machine Sys2Proof.Statements

/-- R123: with the ATNA pin an input the gate of either variant is off. -/
theorem gateValue_input {k : ChipKind} (hk : k ≠ .absent) (o a : Bool) : gateValue k o a false = false := by
  cases k
  case absent => exact absurd rfl hk
  all_goals rfl

/-- R125: the gate that ATNEDGE computes from a snapshot. -/
theorem atnTransition_gate_some (c : Config) (a : Bool) (p : PortState) (s : State) :
    (atnTransition c a (some p) s).pullDataLow =
      gateValue c.chipKind (p.out.getLsbD c.portMap.atnaOut) a (p.dir.getLsbD c.portMap.atnaOut) := by
  rw [atnTransition_pullDataLow, gate_eq_gateValue]
  rfl

/-- R124, R125: the gate that ATNEDGE computes with no snapshot. -/
theorem atnTransition_gate_none (c : Config) (a : Bool) (s : State) :
    (atnTransition c a none s).pullDataLow = gateValue c.chipKind false a true := by
  rw [atnTransition_pullDataLow, gate_eq_gateValue]
  rfl

/-- R130: the gate that PORTOUT computes. -/
theorem decodePort_gate (c : Config) (status dir : Byte) (s : State) :
    (decodePort c status dir s).pullDataLow = gateValue c.chipKind (status.getLsbD c.portMap.atnaOut)
      (!s.lines.atn.sensedHigh) (dir.getLsbD c.portMap.atnaOut) := by
  rw [decodePort_pullDataLow, gate_eq_gateValue, asserted_atn]
  rfl

/-- Settles O14: GATE answers the gate of its configuration, and both callers store it. -/
theorem gateIsPureFunctionOfChipKind : Obligations.GateIsPureFunctionOfChipKind := by
  intro c s hs
  have hcfg : ∀ {c'}, s.cfg = some c' → c' = c := fun hc' => Option.some.inj (hc'.symm.trans hs.2)
  refine ⟨fun atna atn dirA => ?_, fun a p t h => ?_, fun a t h => ?_, fun status dir t h => ?_⟩
  · rw [exec_gate_ready hs, gate_eq_gateValue]
  · obtain ⟨-, c', hc', -, rfl⟩ := execAtnEdge_next h
    obtain rfl := hcfg hc'
    exact atnTransition_gate_some ..
  · obtain ⟨-, c', hc', -, rfl⟩ := execAtnEdge_next h
    obtain rfl := hcfg hc'
    exact atnTransition_gate_none ..
  · obtain ⟨-, c', hc', -, rfl⟩ := execPortOut_next h
    obtain rfl := hcfg hc'
    exact decodePort_gate ..

/-- Settles O16: the guard of R123 for GATE and for both callers. -/
theorem guardForcesPullFalse : Obligations.GuardForcesPullFalse := by
  intro c s hs hchip
  refine ⟨fun atna atn => ?_, fun a p hdir => ⟨_, exec_atnEdge_ready hs a (snapshotMatches_of_attached hchip p), ?_⟩,
    fun status dir hdir => ⟨_, exec_portOut_ready hs status dir ((chipAttached_iff c).2 hchip), ?_⟩⟩
  · rw [exec_gate_ready hs, gate_eq_gateValue, gateValue_input hchip]
  · rw [atnTransition_gate_some, hdir, gateValue_input hchip]
  · rw [decodePort_gate, hdir, gateValue_input hchip]

theorem feedAtn_result (c : Config) (a : Bool) (s : State) : (feedAtn c a s).out.result = s.out.result := by
  cases h : c.chipKind <;> simp [feedAtn, chipAttached, h, State.signalAtn, State.setPortInput, State.record]

/-- Settles O17: the chip is told of ATN, and DATA's total pull follows the new gate. -/
theorem atnEdgeTellsChipAndRecomputesGate : Obligations.AtnEdgeTellsChipAndRecomputesGate := by
  intro c s a p hs hchip g
  have hattached : chipAttached c = true := (chipAttached_iff c).2 hchip
  have hgate : gate c (atnaOutOf c (some p)) a (atnaDirOf c (some p)) = g := by
    rw [gate_eq_gateValue]
    rfl
  rw [exec_atnEdge_ready hs a (snapshotMatches_of_attached hchip p)]
  refine congrArg Host.Outcome.next (state_eq_of_fields (by simp) ?_ (by simp [hgate]) (by simp) ?_ (by simp) (by simp)
    (by simp) (by simp) (output_eq_of_fields (by simp [Output.empty]) ?_ ?_) (by simp))
  · rw [atnTransition_lines, hgate]
  · simp [hattached]
  · rw [atnTransition_hw, feedAtn_hw]
    exact atnCalls_attached hattached a
  · exact feedAtn_result c a _

/-- Settles O18: with no chip nobody is told, and the gate is off. -/
theorem atnEdgeWithoutChipReleasesGate : Obligations.AtnEdgeWithoutChipReleasesGate := by
  intro c s a hs hchip
  rw [exec_atnEdge_ready hs a (snapshotMatches_of_absent hchip), atnTransition, feedAtn_chipless hchip,
    gate_absent_none c hchip]
  rfl

/-- Settles O19: the decode stores the gate, the two chip pulls and the decoded pair. -/
theorem portOutDecodesPulls : Obligations.PortOutDecodesPulls := by
  intro c s status dir hs g wantsData wantsClock
  refine ⟨fun hchip => ?_, fun hchip => ?_⟩
  · have hgate : gate c (portBit status c.portMap.atnaOut) (!s.lines.atn.sensedHigh)
        (portBit dir c.portMap.atnaOut) = g := gate_eq_gateValue ..
    rw [exec_portOut_ready hs status dir ((chipAttached_iff c).2 hchip), decodePort, asserted_atn, hgate]
    rfl
  · change execPortOut status dir s = _
    rw [execPortOut, enter_running _ hs.1 hs.2, if_neg (by simp [chipAttached_of_absent hchip])]
    rfl

end Sys2Proof.Proofs
end

-- ==== Proofs: REFRESH and the pins ====
section
/-! The masks of a Refresh bit by bit, and what it leaves on the wires (R150 to R155). -/

namespace Sys2Proof.Proofs

open Sys2Proof Sys2Proof.Machine Sys2Proof.Statements

/-! The masks. -/

section
variable {c : Config} (d k led sound : Bool) (i : Nat)

theorem refreshMasks_set_split (h : c.splitLines = true) : (refreshMasks c d k led sound).set.testBit i =
    (led && i == c.pinMap.led || sound && i == c.pinMap.sound ||
      (d != c.invertOutputs) && i == c.pinMap.outData || (k != c.invertOutputs) && i == c.pinMap.outClock) := by
  simp [refreshMasks, h, Bool.bne_eq_xor, beq_eq_decide, eq_comm]

theorem refreshMasks_clear_split (h : c.splitLines = true) : (refreshMasks c d k led sound).clear.testBit i =
    (!led && i == c.pinMap.led || !sound && i == c.pinMap.sound ||
      (d == c.invertOutputs) && i == c.pinMap.outData || (k == c.invertOutputs) && i == c.pinMap.outClock) := by
  have hnot (a : Bool) : (!(a ^^ c.invertOutputs)) = (a == c.invertOutputs) := by
    rw [← Bool.bne_eq_xor, bne, Bool.not_not]
  simp only [refreshMasks, h, if_true, drive_clear, hnot]
  simp [beq_eq_decide, eq_comm]

theorem refreshMasks_set_shared (h : c.splitLines = false) : (refreshMasks c d k led sound).set.testBit i =
    (led && i == c.pinMap.led || sound && i == c.pinMap.sound) := by
  simp [refreshMasks, h, beq_eq_decide, eq_comm]

theorem refreshMasks_clear_shared (h : c.splitLines = false) : (refreshMasks c d k led sound).clear.testBit i =
    (!led && i == c.pinMap.led || !sound && i == c.pinMap.sound || i == c.pinMap.data || i == c.pinMap.clock) := by
  simp [refreshMasks, h, beq_eq_decide, eq_comm, Nat.testBit_or]

end

/-- No pin is in both masks. -/
def Apart (m : OutMasks) : Prop := ∀ i, (m.set.testBit i && m.clear.testBit i) = false

/-- Driving a pin that is in neither mask keeps the masks apart. -/
theorem drive_apart {m : OutMasks} {p : Nat} (h : Apart m) (hp : (m.set.testBit p || m.clear.testBit p) = false)
    (v : Bool) : Apart (m.drive p v) := by
  intro i
  rw [drive_set, drive_clear]
  by_cases hi : p = i
  · subst hi
    rw [Bool.or_eq_false_iff] at hp
    cases v <;> simp [hp]
  · simpa [hi] using h i

/-- R39: the pins that a Refresh writes are distinct. -/
theorem refreshedPins_nodup {c : Config} (ha : configAdmitted c = true) : (refreshedPins c).Nodup := by
  have hnd := configAdmitted_nodup ha
  cases hsplit : c.splitLines
  · simp [hsplit, sharedPins] at hnd
    simp [refreshedPins, hsplit]
    grind
  · simp [hsplit, allPins, sharedPins] at hnd
    simp [refreshedPins, hsplit]
    grind

/-- R153: in shared-pin mode DATA and CLOCK are put in the clear mask. -/
theorem refreshMasks_shared_eq {c : Config} (h : c.splitLines = false) (d k led sound : Bool) :
    refreshMasks c d k led sound = ((((⟨0, 0⟩ : OutMasks).drive c.pinMap.led led).drive c.pinMap.sound sound).drive
      c.pinMap.data false).drive c.pinMap.clock false := by
  simp [refreshMasks, h, OutMasks.drive]

/-- R154: with an admitted configuration the masks are apart. -/
theorem refreshMasks_apart {c : Config} (ha : configAdmitted c = true) (d k led sound : Bool) :
    Apart (refreshMasks c d k led sound) := by
  have hnd := refreshedPins_nodup ha
  have hempty : Apart ⟨0, 0⟩ := fun i => by simp
  have hindicators (hne : c.pinMap.led ≠ c.pinMap.sound) :
      Apart (((⟨0, 0⟩ : OutMasks).drive c.pinMap.led led).drive c.pinMap.sound sound) :=
    drive_apart (drive_apart hempty (by simp) led) (by simp [hne]) sound
  cases hsplit : c.splitLines with
  | true =>
    simp only [refreshedPins, hsplit, if_true, List.cons_append, List.nil_append, List.nodup_cons, List.mem_cons,
      List.not_mem_nil, or_false, not_or] at hnd
    obtain ⟨⟨hls, hld, hlc⟩, ⟨hsd, hsc⟩, hdc, -⟩ := hnd
    simp only [refreshMasks, hsplit, if_true]
    refine drive_apart (drive_apart (hindicators hls) ?_ _) ?_ _
    · simp [hld, hsd]
    · simp [hlc, hsc, hdc]
  | false =>
    simp only [refreshedPins, hsplit, Bool.false_eq_true, if_false, List.cons_append, List.nil_append,
      List.nodup_cons, List.mem_cons, List.not_mem_nil, or_false, not_or] at hnd
    obtain ⟨⟨hls, hld, hlc⟩, ⟨hsd, hsc⟩, hdc, -⟩ := hnd
    rw [refreshMasks_shared_eq hsplit]
    refine drive_apart (drive_apart (hindicators hls) ?_ _) ?_ _
    · simp [hld, hsd]
    · simp [hlc, hsc, hdc]

/-- Settles O23: the masks are apart, and together they are `refreshedPins`. -/
theorem refreshMasksAreDisjoint : Obligations.RefreshMasksAreDisjoint := by
  intro c s d k led sound hs ha
  refine ⟨_, _, _, exec_refresh_ready hs d k led sound, rfl, Nat.eq_of_testBit_eq fun i => ?_,
    refreshMasks_testBit c d k led sound⟩
  rw [Nat.testBit_and, refreshMasks_apart ha, Nat.zero_testBit]

/-! The state after a Refresh. -/

/-- REFRESH changes the GPIO and the output alone. -/
theorem refreshPins_state (c : Config) (d k led sound : Bool) (s : State) :
    let m := refreshMasks c d k led sound
    let t := (refreshPins c d k led sound { s with out := .empty }).withResult (.masks m.set m.clear)
    t = { s with gpio := t.gpio, out := ⟨[], refreshCalls c d k led sound, .masks m.set m.clear⟩ } := by
  refine state_eq_of_fields (by simp) (by simp) (by simp) (by simp) (by simp) (by simp) (by simp) (by simp) rfl
    (output_eq_of_fields ?_ ?_ rfl) (by simp)
  · simp [Output.empty]
  · rw [withResult_hw, refreshPins_hw_eq]
    rfl

/-- Settles O21: in split-pin mode a Refresh makes no function write. -/
theorem refreshSplitWritesLevels : Obligations.RefreshSplitWritesLevels := by
  intro c s d k led sound hs hsplit
  have hcalls : refreshCalls c d k led sound = [.writePinsSet (refreshMasks c d k led sound).set,
      .writePinsClear (refreshMasks c d k led sound).clear] := by simp [refreshCalls, hsplit]
  refine ⟨_, _, _, exec_refresh_ready hs d k led sound, ?_, fun i => refreshMasks_set_split d k led sound i hsplit,
    fun i => refreshMasks_clear_split d k led sound i hsplit, refreshPins_latch c d k led sound _,
    Nat.eq_of_testBit_eq fun i => ?_⟩
  · rw [← hcalls]
    exact refreshPins_state c d k led sound s
  · exact refreshPins_outputs_other fun h => by simp [hsplit] at h

/-- Settles O22: in shared-pin mode a Refresh clears the latches of DATA and CLOCK and writes their functions. -/
theorem refreshSharedSwitchesFunctions : Obligations.RefreshSharedSwitchesFunctions := by
  intro c s d k led sound hs hsplit
  have hcalls : refreshCalls c d k led sound = [.writePinsSet (refreshMasks c d k led sound).set,
      .writePinsClear (refreshMasks c d k led sound).clear, .writePinFunction c.pinMap.data (pullFunction d),
      .writePinFunction c.pinMap.clock (pullFunction k)] := by simp [refreshCalls, hsplit]
  refine ⟨_, _, _, exec_refresh_ready hs d k led sound, ?_, fun i => refreshMasks_set_shared d k led sound i hsplit,
    fun i => refreshMasks_clear_shared d k led sound i hsplit, refreshPins_latch c d k led sound _, fun i => ?_⟩
  · refine (refreshPins_state c d k led sound s).trans ?_
    rw [hcalls]
    rfl
  · rw [withResult_gpio, refreshPins_outputs, hsplit]
    simp only [Bool.false_eq_true, if_false, eq_comm]

/-- Settles O25: the second Refresh makes the writes of the first, and finds their pins. -/
theorem refreshTwiceIsRefreshOnce : Obligations.RefreshTwiceIsRefreshOnce := by
  intro d k led sound s t h
  obtain ⟨hm, c, hc, ht⟩ := execRefresh_next h
  have hstate : t = { s with gpio := t.gpio, out := ⟨[], refreshCalls c d k led sound,
      .masks (refreshMasks c d k led sound).set (refreshMasks c d k led sound).clear⟩ } := by
    rw [ht]
    exact refreshPins_state c d k led sound s
  have hready : Ready c t := by rw [hstate]; exact ⟨hm, hc⟩
  have hgpio : t.gpio = (refreshPins c d k led sound { s with out := .empty }).gpio := by rw [ht]; rfl
  rw [exec_refresh_ready hready]
  refine congrArg Host.Outcome.next ((refreshPins_state c d k led sound t).trans ?_)
  rw [withResult_gpio, refreshPins_gpio_twice (t := { t with out := .empty }) hgpio, hstate]

/-! The wires (R151 to R153, R157). -/

/-- A pin that a Refresh names has its latch set exactly when it is in the set mask. -/
theorem refreshPins_latch_named {c : Config} (ha : configAdmitted c = true) (d k led sound : Bool) (s : State)
    {i : Nat} (hi : i ∈ refreshedPins c) :
    (refreshPins c d k led sound s).gpio.latch.testBit i = (refreshMasks c d k led sound).set.testBit i := by
  have hnamed := refreshMasks_testBit c d k led sound i
  rw [decide_eq_true hi] at hnamed
  have hapart := refreshMasks_apart ha d k led sound i
  rw [refreshPins_latch]
  cases hset : (refreshMasks c d k led sound).set.testBit i <;> simp_all

theorem drives_of_output {g : Gpio} {p : Nat} (h : g.outputs.testBit p = true) :
    g.drives p = some (g.latch.testBit p) := if_pos h

theorem drives_of_input {g : Gpio} {p : Nat} (h : g.outputs.testBit p = false) : g.drives p = none :=
  if_neg (by simp [h])

/-- In split-pin mode the four outputs are driven at their levels. -/
theorem refresh_drives_split {c : Config} (ha : configAdmitted c = true) (hsplit : c.splitLines = true)
    (d k led sound : Bool) {s : State} (hs : s.GpioOk c) :
    let g := (refreshPins c d k led sound s).gpio
    g.drives c.pinMap.led = some led ∧ g.drives c.pinMap.sound = some sound ∧
      g.drives c.pinMap.outData = some (d != c.invertOutputs) ∧
      g.drives c.pinMap.outClock = some (k != c.invertOutputs) := by
  intro g
  obtain ⟨hout, -, -⟩ := refreshPins_gpioOk ha d k led sound hs
  have hnd := refreshedPins_nodup ha
  have hdrives (p : Nat) (hp : p ∈ refreshedPins c) :
      g.drives p = some ((refreshMasks c d k led sound).set.testBit p) := by
    rw [drives_of_output (hout p ?_), refreshPins_latch_named ha d k led sound s hp]
    simp only [refreshedPins, initOutputs, hsplit, if_true] at hp ⊢
    simp only [List.mem_append] at hp ⊢
    exact hp.symm
  simp only [refreshedPins, hsplit, if_true, List.cons_append, List.nil_append, List.nodup_cons, List.mem_cons,
    List.not_mem_nil, or_false, not_or] at hnd hdrives
  obtain ⟨⟨hls, hld, hlc⟩, ⟨hsd, hsc⟩, hdc, -⟩ := hnd
  refine ⟨?_, ?_, ?_, ?_⟩
  · rw [hdrives _ (by simp), refreshMasks_set_split _ _ _ _ _ hsplit]
    simp [beq_eq_decide, hls, hld, hlc]
  · rw [hdrives _ (by simp), refreshMasks_set_split _ _ _ _ _ hsplit]
    simp [beq_eq_decide, Ne.symm hls, hsd, hsc]
  · rw [hdrives _ (by simp), refreshMasks_set_split _ _ _ _ _ hsplit]
    simp [beq_eq_decide, Ne.symm hld, Ne.symm hsd, hdc]
  · rw [hdrives _ (by simp), refreshMasks_set_split _ _ _ _ _ hsplit]
    simp [beq_eq_decide, Ne.symm hlc, Ne.symm hsc, Ne.symm hdc]

/-- In shared-pin mode the indicators are driven at their levels, and DATA and CLOCK low while pulled. -/
theorem refresh_drives_shared {c : Config} (ha : configAdmitted c = true) (hsplit : c.splitLines = false)
    (d k led sound : Bool) {s : State} (hs : s.GpioOk c) :
    let g := (refreshPins c d k led sound s).gpio
    g.drives c.pinMap.led = some led ∧ g.drives c.pinMap.sound = some sound ∧
      g.drives c.pinMap.data = (if d then some false else none) ∧
      g.drives c.pinMap.clock = (if k then some false else none) := by
  intro g
  obtain ⟨hout, -, hclear⟩ := refreshPins_gpioOk ha d k led sound hs
  obtain ⟨hdata, hclock⟩ := hclear hsplit
  have hnd := refreshedPins_nodup ha
  have hlatch (p : Nat) (hp : p ∈ refreshedPins c) :
      g.latch.testBit p = (refreshMasks c d k led sound).set.testBit p := refreshPins_latch_named ha d k led sound s hp
  simp only [refreshedPins, hsplit, Bool.false_eq_true, if_false, List.cons_append, List.nil_append, List.nodup_cons,
    List.mem_cons, List.not_mem_nil, or_false, not_or] at hnd hlatch
  obtain ⟨⟨hls, hld, hlc⟩, ⟨hsd, hsc⟩, hdc, -⟩ := hnd
  refine ⟨?_, ?_, ?_, ?_⟩
  · rw [drives_of_output (hout _ (by simp [initOutputs])), hlatch _ (by simp), refreshMasks_set_shared _ _ _ _ _ hsplit]
    simp [hls]
  · rw [drives_of_output (hout _ (by simp [initOutputs])), hlatch _ (by simp), refreshMasks_set_shared _ _ _ _ _ hsplit]
    simp [Ne.symm hls]
  · rw [Gpio.drives, refreshPins_outputs, hdata]
    simp [hsplit, Ne.symm hdc]
  · rw [Gpio.drives, refreshPins_outputs, hclock]
    simp [hsplit]

/-- Settles O24: a Refresh keeps the pin functions of the invariant, and its masks give the latches. -/
theorem refreshDrivesOpenCollector : Obligations.RefreshDrivesOpenCollector := by
  intro c s t d k led sound hinv hs h
  obtain ⟨ha, -, -, hgpio⟩ := (inv_iff hs.2).1 hinv
  obtain ⟨-, c', hc', rfl⟩ := execRefresh_next h
  obtain rfl : c' = c := Option.some.inj (hc'.symm.trans hs.2)
  have hclear : State.GpioOk c' { s with out := .empty } := GpioOk_congr (s := s) rfl hgpio
  obtain ⟨-, hin, -⟩ := refreshPins_gpioOk ha d k led sound hclear
  have hinputs (p : Nat) (hp : p ∈ initInputs c') :
      (refreshPins c' d k led sound { s with out := .empty }).gpio.drives p = none := drives_of_input (hin p hp)
  rw [withResult_gpio]
  cases hsplit : c'.splitLines with
  | true =>
    obtain ⟨hled, hsound, hdata, hclock⟩ := refresh_drives_split ha hsplit d k led sound hclear
    refine ⟨hled, hsound, fun _ => ⟨hdata, hclock, hinputs _ ?_, hinputs _ ?_⟩, by simp, fun p hp => hinputs p ?_⟩
    · simp [initInputs, hsplit]
    · simp [initInputs, hsplit]
    · simp [initInputs, hsplit] at hp ⊢
      tauto
  | false =>
    obtain ⟨hled, hsound, hdata, hclock⟩ := refresh_drives_shared ha hsplit d k led sound hclear
    refine ⟨hled, hsound, by simp, fun _ => ⟨hdata, hclock⟩, fun p hp => hinputs p ?_⟩
    simpa [initInputs, hsplit] using hp

end Sys2Proof.Proofs
end

-- ==== Proofs: RESET ====
section
/-! The check of RESET (R39), and what an admitted RESET leaves and calls (R38, R221, R222). -/

namespace Sys2Proof.Proofs

open Sys2Proof Sys2Proof.Machine Sys2Proof.Statements

/-! The trace. -/

/-- The chip calls of ChipInit (R222). -/
def chipInitCalls (c : Config) : List HwCall :=
  if c.chipKind = .absent then []
  else [.setPortInput c.portMap.atnIn false, .setPortInput c.portMap.dataIn false,
    .setPortInput c.portMap.clockIn false]

theorem chipInit_out (c : Config) (s : State) :
    (chipInit c s).out = { s.out with hw := s.out.hw ++ chipInitCalls c } := by
  cases hk : c.chipKind <;>
    simp [chipInit, chipInitCalls, chipAttached, hk, State.setPortInput, State.record]

theorem hardwareInit_out (c : Config) (s : State) (hs : s.out = .empty) :
    (hardwareInit c s).out = ⟨[], refreshCalls c false false false false ++
      (initInputs c).map (fun p => .writePinFunction p .input) ++
      (initOutputs c).map (fun p => .writePinFunction p .output), .nothing⟩ := by
  obtain ⟨-, -, -, -, -, -, -, -, -, -, hinEvents, hinResult, hinHw⟩ :=
    writePinFunctions_frame .input (initInputs c) (refreshPins c false false false false s)
  obtain ⟨-, -, -, -, -, -, -, -, -, -, houtEvents, houtResult, houtHw⟩ := writePinFunctions_frame .output
    (initOutputs c) ((refreshPins c false false false false s).writePinFunctions .input (initInputs c))
  have hresult : (refreshPins c false false false false s).out.result = s.out.result := by
    simp only [refreshPins, refreshFunctions]
    split <;> rfl
  refine output_eq_of_fields (houtEvents.trans (hinEvents.trans ?_)) (houtHw.trans ?_)
    (houtResult.trans (hinResult.trans ?_))
  · rw [refreshPins_events, hs]
    rfl
  · rw [hinHw, refreshPins_hw_eq, hs]
    rfl
  · rw [hresult, hs]
    rfl

theorem resetWith_out (c : Config) (s : State) :
    (resetWith c s).out = ⟨[], refreshCalls c false false false false ++
      (initInputs c).map (fun p => .writePinFunction p .input) ++
      (initOutputs c).map (fun p => .writePinFunction p .output) ++ chipInitCalls c, .nothing⟩ := by
  rw [resetWith, chipInit_out, hardwareInit_out c (s.fresh c) rfl]

/-- Settles O1: RESET writes every field of `S` and `C` anew. -/
theorem resetLeavesInitialValues : Obligations.ResetLeavesInitialValues := by
  intro c s hm ha
  obtain ⟨hcfg, hlines, hgate, hlast, hfed, hreset, hpins, hmark, hcalls⟩ := resetWith_frame c s
  refine ⟨_, exec_reset_admitted hm ha, ?_, by rw [resetWith_out], by rw [resetWith_out]⟩
  exact state_eq_of_fields hcfg hlines hgate hlast hfed hreset hpins (hmark.trans hm.symm) rfl rfl hcalls

/-- The trace of RESET is that of the statements, for the masks of a released Refresh. -/
theorem resetTrace_eq (c : Config) : resetTrace c (refreshMasks c false false false false).set
      (refreshMasks c false false false false).clear =
    refreshCalls c false false false false ++ (initInputs c).map (fun p => .writePinFunction p .input) ++
      (initOutputs c).map (fun p => .writePinFunction p .output) ++ chipInitCalls c := by
  cases hsplit : c.splitLines <;>
    simp [resetTrace, refreshCalls, initInputs, initOutputs, chipInitCalls, hsplit, pullFunction]

/-- Settles O2: the released Refresh, the pin functions, and the chip's three inputs. -/
theorem resetInitialisesPinsThenChip : Obligations.ResetInitialisesPinsThenChip := by
  intro c s hm ha
  refine ⟨_, (refreshMasks c false false false false).set, (refreshMasks c false false false false).clear,
    exec_reset_admitted hm ha, by rw [resetWith_out, resetTrace_eq], fun i => ?_, fun i => ?_⟩
  · cases hsplit : c.splitLines
    · rw [refreshMasks_set_shared _ _ _ _ _ hsplit]
      rfl
    · rw [refreshMasks_set_split _ _ _ _ _ hsplit]
      cases c.invertOutputs <;> simp
  · cases hsplit : c.splitLines
    · rw [refreshMasks_clear_shared _ _ _ _ _ hsplit]
      simp [Bool.or_assoc]
    · rw [refreshMasks_clear_split _ _ _ _ _ hsplit]
      cases c.invertOutputs <;> simp [Bool.or_assoc]

/-! The pins. -/

theorem resetWith_outputs (c : Config) (s : State) (i : Nat) :
    (resetWith c s).gpio.outputs.testBit i =
      if i ∈ initOutputs c then true else if i ∈ initInputs c then false
      else (refreshPins c false false false false (s.fresh c)).gpio.outputs.testBit i := by
  rw [resetWith_gpio, hardwareInit, writePinFunctions_outputs, writePinFunctions_outputs]
  simp

theorem resetWith_latch (c : Config) (s : State) :
    (resetWith c s).gpio.latch = (refreshPins c false false false false (s.fresh c)).gpio.latch := by
  obtain ⟨-, -, -, -, -, -, -, -, -, hin, -⟩ :=
    writePinFunctions_frame .input (initInputs c) (refreshPins c false false false false (s.fresh c))
  obtain ⟨-, -, -, -, -, -, -, -, -, hout, -⟩ := writePinFunctions_frame .output (initOutputs c)
    ((refreshPins c false false false false (s.fresh c)).writePinFunctions .input (initInputs c))
  rw [resetWith_gpio, hardwareInit]
  exact hout.trans hin

theorem initInputs_subset (c : Config) : ∀ p ∈ initInputs c, p ∈ allPins c := by
  intro p hp
  cases hsplit : c.splitLines <;> simp [initInputs, allPins, sharedPins, hsplit] at hp ⊢ <;> tauto

theorem initOutputs_subset (c : Config) : ∀ p ∈ initOutputs c, p ∈ allPins c := by
  intro p hp
  cases hsplit : c.splitLines <;> simp [initOutputs, allPins, sharedPins, hsplit] at hp ⊢ <;> tauto

theorem refreshedPins_subset (c : Config) : ∀ p ∈ refreshedPins c, p ∈ allPins c := by
  intro p hp
  cases hsplit : c.splitLines <;> simp [refreshedPins, allPins, sharedPins, hsplit] at hp ⊢ <;> tauto

/-- Every output is released, at the level of its bit in the set mask of a released Refresh. -/
theorem resetWith_drives_output {c : Config} (ha : configAdmitted c = true) (s : State) {p : Nat}
    (hp : p ∈ initOutputs c) :
    (resetWith c s).gpio.drives p = some ((refreshMasks c false false false false).set.testBit p) := by
  have hrefreshed : p ∈ refreshedPins c := by
    cases hsplit : c.splitLines <;> simp [initOutputs, refreshedPins, hsplit] at hp ⊢ <;> tauto
  rw [drives_of_output (by rw [resetWith_outputs, if_pos hp]), resetWith_latch,
    refreshPins_latch_named ha _ _ _ _ _ hrefreshed]

/-- In shared-pin mode the released Refresh has made DATA and CLOCK inputs, and nothing makes them outputs. -/
theorem resetWith_shared_input {c : Config} (ha : configAdmitted c = true) (hsplit : c.splitLines = false) (s : State)
    {p : Nat} (hp : p = c.pinMap.data ∨ p = c.pinMap.clock) : (resetWith c s).gpio.outputs.testBit p = false := by
  have hnd := refreshedPins_nodup ha
  have hout : p ∉ initOutputs c := by
    simp [refreshedPins, hsplit] at hnd
    simp [initOutputs, hsplit]
    grind
  rw [resetWith_outputs, if_neg hout, refreshPins_outputs, hsplit]
  rcases hp with rfl | rfl <;> simp

/-- Settles O3: the pin functions of HardwareInit, with the latches of a released Refresh. -/
theorem resetLeavesPinsReleased : Obligations.ResetLeavesPinsReleased := by
  intro c s t h
  obtain ⟨-, ha, rfl⟩ := execReset_next h
  obtain ⟨-, hin, -⟩ := resetWith_gpioOk ha s
  have hnd := refreshedPins_nodup ha
  refine ⟨fun p hp => ?_, fun hsplit p hp => ?_, fun p hp => ?_, fun p hp => ⟨?_, ?_⟩⟩
  · rw [resetWith_drives_output ha s (List.mem_append_right _ hp)]
    cases hsplit : c.splitLines
    · rw [refreshMasks_set_shared _ _ _ _ _ hsplit]
      rfl
    · rw [refreshMasks_set_split _ _ _ _ _ hsplit]
      simp [refreshedPins, hsplit] at hnd
      simp at hp
      rcases hp with rfl | rfl <;> simp [beq_eq_decide, hnd]
  · rw [resetWith_drives_output ha s (by simp [initOutputs, hsplit] at hp ⊢; tauto),
      refreshMasks_set_split _ _ _ _ _ hsplit]
    simp at hp
    rcases hp with rfl | rfl <;> cases c.invertOutputs <;> simp
  · refine drives_of_input ?_
    by_cases hmem : p ∈ initInputs c
    · exact hin p hmem
    · cases hsplit : c.splitLines
      · refine resetWith_shared_input ha hsplit s ?_
        simp [initInputs, hsplit] at hmem
        simp at hp
        tauto
      · simp [initInputs, hsplit] at hmem
        simp at hp
        tauto
  · rw [resetWith_latch]
    exact refreshPins_latch_other fun h => hp (refreshedPins_subset c p h)
  · rw [resetWith_outputs, if_neg fun h => hp (initOutputs_subset c p h),
      if_neg fun h => hp (initInputs_subset c p h)]
    refine refreshPins_outputs_other fun hsplit => ?_
    simp [allPins, sharedPins] at hp
    tauto

/-! The check (R39). -/

theorem thresholds_iff (c : Config) : (c.buttons.all fun b => b.repeatThreshold != 0) = true ↔
    ∀ b ∈ c.buttons, 1 ≤ b.repeatThreshold.toNat := by
  rw [List.all_eq_true]
  refine forall₂_congr fun b _ => ?_
  rw [bne_iff_ne]
  constructor
  · intro h
    bv_omega
  · intro h
    bv_omega

theorem mem_allPins_iff (c : Config) (p : Nat) : p ∈ allPins c ↔
    p ∈ [c.pinMap.atn, c.pinMap.data, c.pinMap.clock, c.pinMap.srq, c.pinMap.reset, c.pinMap.outData,
      c.pinMap.outClock, c.pinMap.led, c.pinMap.sound] ++ c.buttons.map Button.pin := by
  simp [allPins, sharedPins]
  tauto

theorem pinWidths_iff (c : Config) : ((allPins c).all fun p => decide (p < c.pinWidth)) = true ↔
    ∀ p ∈ [c.pinMap.atn, c.pinMap.data, c.pinMap.clock, c.pinMap.srq, c.pinMap.reset, c.pinMap.outData,
      c.pinMap.outClock, c.pinMap.led, c.pinMap.sound] ++ c.buttons.map Button.pin, p < c.pinWidth := by
  simp only [List.all_eq_true, decide_eq_true_eq, mem_allPins_iff]

/-- In split-pin mode the two dedicated outputs come on top of the pins that are distinct in either mode. -/
theorem pins_nodup_iff (c : Config) :
    (if c.splitLines then (allPins c).Nodup else (sharedPins c).Nodup) ↔
      (sharedPins c).Nodup ∧ (c.splitLines = true → c.pinMap.outData ≠ c.pinMap.outClock ∧
        ∀ p ∈ sharedPins c, p ≠ c.pinMap.outData ∧ p ≠ c.pinMap.outClock) := by
  cases hsplit : c.splitLines with
  | false => simp
  | true =>
    simp only [allPins, if_true, List.nodup_cons, List.mem_cons, not_or, forall_true_left]
    constructor
    · rintro ⟨⟨hne, hdata⟩, hclock, hnd⟩
      exact ⟨hnd, hne, fun p hp => ⟨fun h => hdata (h ▸ hp), fun h => hclock (h ▸ hp)⟩⟩
    · rintro ⟨hnd, hne, hall⟩
      exact ⟨⟨hne, fun h => (hall _ h).1 rfl⟩, fun h => (hall _ h).2 rfl, hnd⟩

theorem portBits_iff (c : Config) : ((portBits c).all fun b => decide (b ≤ 7)) = true ↔ ∀ b ∈ portBits c, b < 8 := by
  simp only [List.all_eq_true, decide_eq_true_eq, Nat.lt_succ_iff]

theorem pairs_iff (c : Config) : c.rotaryPairs.all (pairAdmitted c) = true ↔ ∀ r ∈ c.rotaryPairs,
    r.primary ≠ r.secondary ∧ r.primary < c.buttons.length ∧ r.secondary < c.buttons.length := by
  simp only [List.all_eq_true, pairAdmitted, Bool.and_eq_true, bne_iff_ne, decide_eq_true_eq, and_assoc]
  rfl

/-- Settles O5: the checks one by one. -/
theorem admittedConfigMeetsEveryCheck : Obligations.AdmittedConfigMeetsEveryCheck := by
  intro c
  simp only [configAdmitted, Bool.and_eq_true, thresholds_iff, pinWidths_iff, portBits_iff, pairs_iff,
    decide_eq_true_eq, pins_nodup_iff, and_assoc]
  rfl

end Sys2Proof.Proofs
end

-- ==== Proofs: Ownership of the fields ====
section
/-! Which operations write which fields (R26, R40, R100, R120, R170). -/

namespace Sys2Proof.Proofs

open Sys2Proof Sys2Proof.Machine Sys2Proof.Statements

/-- The statement of ownership for one operation and the two states around it. -/
def WritesOnlyItsFields (i : Instr) (s t : State) : Prop :=
  (∀ l, t.sensedHigh l ≠ s.sensedHigh l → ∃ sel raw snap, i = .sense sel raw snap ∧ LineId.ofSelector sel = some l) ∧
  (t.resetAsserted ≠ s.resetAsserted → ∃ raw snap, i = .sense 4 raw snap) ∧
  (t.pullDataLow ≠ s.pullDataLow ∨ t.lines.data.pulledLowByDrive ≠ s.lines.data.pulledLowByDrive →
    (∃ a snap, i = .atnEdge a snap) ∨ (∃ o d, i = .portOut o d) ∨ ∃ raw snap, i = .sense 0 raw snap) ∧
  (t.lines.data.pulledLowByChipOutput ≠ s.lines.data.pulledLowByChipOutput ∨
    t.lines.clock.pulledLowByChipOutput ≠ s.lines.clock.pulledLowByChipOutput ∨ t.lastApplied ≠ s.lastApplied →
    ∃ o d, i = .portOut o d) ∧
  (t.fed ≠ s.fed → (∃ a snap, i = .atnEdge a snap) ∨ ∃ raw snap, i = .sense 0 raw snap) ∧
  (t.pins ≠ s.pins → ∃ n raw, i = .sample n raw) ∧
  (t.gpio ≠ s.gpio → ∃ d k led sound, i = .refresh d k led sound) ∧
  t.lines.clock.pulledLowByDrive = s.lines.clock.pulledLowByDrive

/-- An operation that leaves the bus alone, and the pins and the GPIO unless it is theirs. -/
theorem writesOnly_of_sameBus {i : Instr} {s t : State} (hlines : t.lines = s.lines)
    (hgate : t.pullDataLow = s.pullDataLow) (hlast : t.lastApplied = s.lastApplied) (hfed : t.fed = s.fed)
    (hreset : t.resetAsserted = s.resetAsserted) (hpins : t.pins ≠ s.pins → ∃ n raw, i = .sample n raw)
    (hgpio : t.gpio ≠ s.gpio → ∃ d k led sound, i = .refresh d k led sound) : WritesOnlyItsFields i s t := by
  refine ⟨fun l h => absurd (sensedHigh_congr t s hlines l) h, fun h => absurd hreset h, ?_, ?_,
    fun h => absurd hfed h, hpins, hgpio, by rw [hlines]⟩
  · simp [hgate, hlines]
  · simp [hlines, hlast]

theorem atnEdge_writesOnly (c : Config) (a : Bool) (snap : Option PortState) (s : State) :
    WritesOnlyItsFields (.atnEdge a snap) s (atnTransition c a snap s) := by
  refine ⟨fun l h => absurd (by simp) h, fun h => absurd (by simp) h, fun _ => .inl ⟨_, _, rfl⟩, ?_,
    fun _ => .inl ⟨_, _, rfl⟩, fun h => absurd (by simp) h, fun h => absurd (by simp) h, ?_⟩
  · simp [atnTransition_lines]
  · simp [atnTransition_lines]

theorem portOut_writesOnly (c : Config) (status dir : Byte) (s : State) :
    WritesOnlyItsFields (.portOut status dir) s (decodePort c status dir s) :=
  ⟨fun l h => absurd (by simp) h, fun h => absurd rfl h, fun _ => .inr (.inl ⟨_, _, rfl⟩), fun _ => ⟨_, _, rfl⟩,
    fun h => absurd rfl h, fun h => absurd rfl h, fun h => absurd rfl h, rfl⟩

theorem selector_of_reset : ∀ sel : Selector, LineId.ofSelector sel = some .reset → sel = 4 := by decide
theorem selector_of_atn : ∀ sel : Selector, LineId.ofSelector sel = some .atn → sel = 0 := by decide

/-- SENSE of a line other than ATN leaves the gate, DATA's drive pull and what the chip was fed. -/
theorem senseLine_keeps_gate_of_ne_atn (c : Config) {l : LineId} (hl : l ≠ .atn) (raw : Bool)
    (snap : Option PortState) (s : State) :
    (senseLine c l raw snap s).pullDataLow = s.pullDataLow ∧
      (senseLine c l raw snap s).lines.data.pulledLowByDrive = s.lines.data.pulledLowByDrive ∧
      (senseLine c l raw snap s).fed = s.fed := by
  rw [senseLine_eq c l raw snap s hl]
  cases l <;> exact ⟨rfl, rfl, rfl⟩

theorem senseLine_resetAsserted_of_ne_reset (c : Config) {l : LineId} (hl : l ≠ .reset) (raw : Bool)
    (snap : Option PortState) (s : State) : (senseLine c l raw snap s).resetAsserted = s.resetAsserted := by
  by_cases hatn : l = .atn
  · subst hatn
    exact senseAtn_resetAsserted c raw snap s
  · rw [senseLine_eq c l raw snap s hatn]
    exact if_neg hl

theorem senseLine_clockDrive (c : Config) (l : LineId) (raw : Bool) (snap : Option PortState) (s : State) :
    (senseLine c l raw snap s).lines.clock.pulledLowByDrive = s.lines.clock.pulledLowByDrive := by
  by_cases hatn : l = .atn
  · subst hatn
    rcases senseAtn_cases c raw snap s with ⟨-, h⟩ | ⟨-, h⟩
    · rw [senseLine, h]
      rfl
    · rw [senseLine, h, atnTransition_lines]
      rfl
  · rw [senseLine_eq c l raw snap s hatn]
    cases l <;> rfl

/-- SENSE of a line writes that line's sample, for RESET the reported condition, and for ATN what ATNEDGE writes. -/
theorem sense_writesOnly (c : Config) {sel : Selector} {l : LineId} (hl : LineId.ofSelector sel = some l) (raw : Bool)
    (snap : Option PortState) (s : State) : WritesOnlyItsFields (.sense sel raw snap) s (senseLine c l raw snap s) := by
  have hatnOnly {P : Prop} (hkept : l ≠ .atn → ¬P) (h : P) :
      ∃ raw' snap', Instr.sense sel raw snap = .sense 0 raw' snap' := by
    obtain rfl : l = .atn := by_contra fun hne => hkept hne h
    obtain rfl := selector_of_atn sel hl
    exact ⟨raw, snap, rfl⟩
  refine ⟨fun l' h => ?_, fun h => ?_, fun h => .inr (.inr (hatnOnly (fun hne => ?_) h)), fun h => absurd h ?_,
    fun h => .inr (hatnOnly (fun hne => ?_) h), fun h => absurd (by simp) h, fun h => absurd (by simp) h,
    senseLine_clockDrive c l raw snap s⟩
  case refine_1 =>
    obtain rfl : l = l' := by_contra fun hne => h (by rw [senseLine_sensedHigh, if_neg hne])
    exact ⟨sel, raw, snap, rfl, hl⟩
  case refine_2 =>
    obtain rfl : l = .reset := by_contra fun hne => h (senseLine_resetAsserted_of_ne_reset c hne raw snap s)
    obtain rfl := selector_of_reset sel hl
    exact ⟨raw, snap, rfl⟩
  case refine_3 =>
    obtain ⟨hgate, hdrive, -⟩ := senseLine_keeps_gate_of_ne_atn c hne raw snap s
    simp [hgate, hdrive]
  case refine_4 =>
    have hdata := senseLine_pulledLowByChipOutput c l .data raw snap s
    have hclock := senseLine_pulledLowByChipOutput c l .clock raw snap s
    simp only [State.pulledLowByChipOutput] at hdata hclock
    simp [hdata, hclock]
  case refine_5 =>
    obtain ⟨-, -, hfed⟩ := senseLine_keeps_gate_of_ne_atn c hne raw snap s
    exact not_not_intro hfed

/-- Settles O45: each operation writes the fields of its own component and no other. -/
theorem eachFieldHasItsWriters : Obligations.EachFieldHasItsWriters := by
  intro i s t h hreset hcycle
  change WritesOnlyItsFields i s t
  cases i with
  | reset c => exact absurd rfl (hreset c)
  | cycle levels snap led sound => exact absurd rfl (hcycle levels snap led sound)
  | sense sel raw snap =>
    obtain ⟨-, c, l, -, hl, -, rfl⟩ := execSense_next h
    exact sense_writesOnly c hl raw snap { s with out := .empty }
  | atnEdge a snap =>
    obtain ⟨-, c, -, -, rfl⟩ := execAtnEdge_next h
    exact atnEdge_writesOnly c a snap { s with out := .empty }
  | portOut status dir =>
    obtain ⟨-, c, -, -, rfl⟩ := execPortOut_next h
    exact portOut_writesOnly c status dir { s with out := .empty }
  | gate o a d =>
    obtain ⟨-, c, -, rfl⟩ := execGate_next h
    exact writesOnly_of_sameBus rfl rfl rfl rfl rfl (absurd rfl) (absurd rfl)
  | refresh d k led sound =>
    obtain ⟨-, c, -, rfl⟩ := execRefresh_next h
    exact writesOnly_of_sameBus (by simp) (by simp) (by simp) (by simp) (by simp) (absurd (by simp))
      (fun _ => ⟨d, k, led, sound, rfl⟩)
  | sample n raw =>
    obtain ⟨-, c, -, -, rfl⟩ := execSample_next h
    exact writesOnly_of_sameBus (by simp) (by simp) (by simp) (by simp) (by simp) (fun _ => ⟨n, raw, rfl⟩)
      (absurd (by simp))
  | rotary j pressed =>
    obtain ⟨-, c, r, -, -, rfl⟩ := execRotary_next h
    exact writesOnly_of_sameBus (by simp) (by simp) (by simp) (by simp) (by simp) (absurd (by simp)) (absurd (by simp))
  | reserved op => exact absurd h (execReserved_never_next (op := op))

end Sys2Proof.Proofs
end
